-- ==== Sys2Proof/Word.lean ====
section
/-! DEFINITION. The machine's word types (spec/00_scope.md R6, R10): a byte is 8 bits, an address or word is 16 bits. -/

namespace Sys2Proof

/-- A byte of the 8-bit data bus, and the width of A, X, Y and SP (R6). -/
abbrev Byte := BitVec 8

/-- A 16-bit address or word, and the width of PC (R6). -/
abbrev Addr := BitVec 16

end Sys2Proof
end

