-- ==== Sys2Proof/Config.lean ====
section
/-! DEFINITION. What the spec leaves to the implementation: the parameters of spec/00_scope.md R8 and the free values.
A free value is an opaque constant: nothing in Lean can evaluate it, so a statement holds whatever it is. -/

namespace Sys2Proof

/-- What the peripheral collaborator PERIPH sees: the byte transfers the arbiter forwards to it (R50 to R53), and a bus
reset (R59). -/
inductive PeriphEvent where
  | read (a : Addr)
  | write (a : Addr) (value : Byte)
  | busReset
  deriving DecidableEq, Repr

/-- What can change a MAPPER's state: a byte written to it (R55), and a bus reset (R59). -/
inductive MapperEvent where
  | write (a : Addr) (value : Byte)
  | busReset
  deriving DecidableEq, Repr

/-- What a MAPPER does with a byte written to it and at a bus reset. R55 and R59 leave both OPEN: `anyEffect` stands for
every mapper, the other two are particular mappers, which a bus reset leaves alone (log entry 6). -/
inductive MapperWrites where
  | anyEffect  -- either may change what every later mapper read returns (bank switching)
  | ignored    -- the write changes nothing a read can see (plain ROM)
  | stored     -- the byte written is the byte read back at that address (plain RAM)
  deriving DecidableEq, Repr

/-- The parameters the model takes (R8), with the values the spec assigns as defaults. No step changes them. -/
structure Params where
  /-- `BCD_ENABLED` (R8, R9): OPEN, default false. -/
  bcdEnabled : Bool := false
  /-- `UNDOC_ALIASES` (R8, R320): true. -/
  undocAliases : Bool := true
  /-- `INTERRUPT_CYCLES` (R8, D6): 7. -/
  interruptCycles : Nat := 7
  /-- The write half of `MAPPER` (R8, R55): OPEN. -/
  mapperWrites : MapperWrites := .anyEffect
  deriving DecidableEq, Repr

/-- The operation `bcd_invalid` is asked about (R129, R130). -/
inductive BcdOp where
  | adc
  | sbc
  deriving DecidableEq, Repr

/-- The A, C, V, Z and N an ADC or SBC leaves, in binary or decimal (R127 to R130). -/
structure ArithResult where
  a : Byte
  c : Bool
  v : Bool
  z : Bool
  n : Bool
  deriving DecidableEq, Repr, Inhabited

/-- FREE VALUE (R8, R129, R130, R221): the decimal result for an operand with a digit above 9, a total function of the
operation, A, m and C of which nothing is known (log entry 7). -/
opaque Config.bcdInvalid : BcdOp → Byte → Byte → Bool → ArithResult

/-- FREE VALUE (R44, R59, R68): the RAM byte at a physical index that nothing has written since power-on (epoch 0) or
since the given bus reset (log entry 2). -/
opaque Config.ramDraw : Nat → Nat → Byte

/-- FREE VALUE (R52, R53): what a peripheral or unmapped read returns, given every transfer and bus reset PERIPH has
seen before it (newest first) and the address (log entry 4). -/
opaque Config.periphRead : List PeriphEvent → Addr → Byte

/-- FREE VALUE (R55): what a mapper read returns, given every write and bus reset the mapper has seen (newest first)
and the address, where the byte is not a known one (log entry 5). -/
opaque Config.mapperRead : List MapperEvent → Addr → Byte

end Sys2Proof
end

