-- ==== Sys2Proof/Syntax.lean ====
section
/-! DEFINITION. The instructions as data: mnemonics, the 13 addressing modes (spec/30_encoding.md R70), operands, and
`Instr`, one constructor per row of spec/opcode_table.json. A constructor's name is its mnemonic and its mode; a slot
that shares both with another slot carries its opcode byte as well. -/

namespace Sys2Proof

/-- The 75 mnemonics of the opcode table (R75, R301 to R319), spelled as the table spells them. -/
inductive Mnemonic where
  | BRK | ORA | KIL | SLO | NOP | ASL | PHP | ANC | BPL | CLC | JSR | AND
  | RLA | BIT | ROL | PLP | BMI | SEC | RTI | EOR | SRE | LSR | PHA | ALR
  | JMP | BVC | CLI | RTS | ADC | RRA | ROR | PLA | ARR | BVS | SEI | STA
  | SAX | STY | STX | DEY | TXA | XAA | BCC | AHX | TYA | TXS | TAS | SHY
  | SHX | LDY | LDA | LDX | LAX | TAY | TAX | BCS | CLV | TSX | LAS | CPY
  | CMP | DCP | DEC | INY | DEX | AXS | BNE | CLD | CPX | SBC | ISC | INC
  | INX | BEQ | SED
  deriving DecidableEq, Repr

/-- The 13 addressing modes (R70). -/
inductive Mode where
  | implied | accumulator | immediate | zeroPage | zeroPageX | zeroPageY | relative
  | indexedIndirect | indirectIndexed | absolute | absoluteX | absoluteY | indirect
  deriving DecidableEq, Repr

/-- An addressing mode with its operand bytes; a word is already assembled little-endian (R70, R73). -/
inductive Operand where
  | implied
  | accumulator
  | immediate (v : Byte)
  | zeroPage (a : Byte)
  | zeroPageX (a : Byte)
  | zeroPageY (a : Byte)
  | relative (off : Byte)
  | indexedIndirect (ptr : Byte)
  | indirectIndexed (ptr : Byte)
  | absolute (w : Addr)
  | absoluteX (w : Addr)
  | absoluteY (w : Addr)
  | indirect (w : Addr)
  deriving DecidableEq, Repr

/-- The mode of an operand. -/
def Operand.mode : Operand → Mode
  | .implied => .implied
  | .accumulator => .accumulator
  | .immediate _ => .immediate
  | .zeroPage _ => .zeroPage
  | .zeroPageX _ => .zeroPageX
  | .zeroPageY _ => .zeroPageY
  | .relative _ => .relative
  | .indexedIndirect _ => .indexedIndirect
  | .indirectIndexed _ => .indirectIndexed
  | .absolute _ => .absolute
  | .absoluteX _ => .absoluteX
  | .absoluteY _ => .absoluteY
  | .indirect _ => .indirect

/-- One constructor per row of the opcode table (R74, R76): in opcode order, those with an operand first (a limit of
Lean's compiler: past 244 constructors only those without arguments compile). -/
inductive Instr where
  | oraIzx (ptr : Byte)
  | sloIzx (ptr : Byte)
  | nopZp04 (a : Byte)
  | oraZp (a : Byte)
  | aslZp (a : Byte)
  | sloZp (a : Byte)
  | oraImm (v : Byte)
  | ancImm0B (v : Byte)
  | nopAbs (w : Addr)
  | oraAbs (w : Addr)
  | aslAbs (w : Addr)
  | sloAbs (w : Addr)
  | bpl (off : Byte)
  | oraIzy (ptr : Byte)
  | sloIzy (ptr : Byte)
  | nopZpx14 (a : Byte)
  | oraZpx (a : Byte)
  | aslZpx (a : Byte)
  | sloZpx (a : Byte)
  | oraAby (w : Addr)
  | sloAby (w : Addr)
  | nopAbx1C (w : Addr)
  | oraAbx (w : Addr)
  | aslAbx (w : Addr)
  | sloAbx (w : Addr)
  | jsr (w : Addr)
  | andIzx (ptr : Byte)
  | rlaIzx (ptr : Byte)
  | bitZp (a : Byte)
  | andZp (a : Byte)
  | rolZp (a : Byte)
  | rlaZp (a : Byte)
  | andImm (v : Byte)
  | ancImm2B (v : Byte)
  | bitAbs (w : Addr)
  | andAbs (w : Addr)
  | rolAbs (w : Addr)
  | rlaAbs (w : Addr)
  | bmi (off : Byte)
  | andIzy (ptr : Byte)
  | rlaIzy (ptr : Byte)
  | nopZpx34 (a : Byte)
  | andZpx (a : Byte)
  | rolZpx (a : Byte)
  | rlaZpx (a : Byte)
  | andAby (w : Addr)
  | rlaAby (w : Addr)
  | nopAbx3C (w : Addr)
  | andAbx (w : Addr)
  | rolAbx (w : Addr)
  | rlaAbx (w : Addr)
  | eorIzx (ptr : Byte)
  | sreIzx (ptr : Byte)
  | nopZp44 (a : Byte)
  | eorZp (a : Byte)
  | lsrZp (a : Byte)
  | sreZp (a : Byte)
  | eorImm (v : Byte)
  | alr (v : Byte)
  | jmpAbs (w : Addr)
  | eorAbs (w : Addr)
  | lsrAbs (w : Addr)
  | sreAbs (w : Addr)
  | bvc (off : Byte)
  | eorIzy (ptr : Byte)
  | sreIzy (ptr : Byte)
  | nopZpx54 (a : Byte)
  | eorZpx (a : Byte)
  | lsrZpx (a : Byte)
  | sreZpx (a : Byte)
  | eorAby (w : Addr)
  | sreAby (w : Addr)
  | nopAbx5C (w : Addr)
  | eorAbx (w : Addr)
  | lsrAbx (w : Addr)
  | sreAbx (w : Addr)
  | adcIzx (ptr : Byte)
  | rraIzx (ptr : Byte)
  | nopZp64 (a : Byte)
  | adcZp (a : Byte)
  | rorZp (a : Byte)
  | rraZp (a : Byte)
  | adcImm (v : Byte)
  | arr (v : Byte)
  | jmpInd (w : Addr)
  | adcAbs (w : Addr)
  | rorAbs (w : Addr)
  | rraAbs (w : Addr)
  | bvs (off : Byte)
  | adcIzy (ptr : Byte)
  | rraIzy (ptr : Byte)
  | nopZpx74 (a : Byte)
  | adcZpx (a : Byte)
  | rorZpx (a : Byte)
  | rraZpx (a : Byte)
  | adcAby (w : Addr)
  | rraAby (w : Addr)
  | nopAbx7C (w : Addr)
  | adcAbx (w : Addr)
  | rorAbx (w : Addr)
  | rraAbx (w : Addr)
  | nopImm80 (v : Byte)
  | staIzx (ptr : Byte)
  | nopImm82 (v : Byte)
  | saxIzx (ptr : Byte)
  | styZp (a : Byte)
  | staZp (a : Byte)
  | stxZp (a : Byte)
  | saxZp (a : Byte)
  | nopImm89 (v : Byte)
  | xaa (v : Byte)
  | styAbs (w : Addr)
  | staAbs (w : Addr)
  | stxAbs (w : Addr)
  | saxAbs (w : Addr)
  | bcc (off : Byte)
  | staIzy (ptr : Byte)
  | ahxIzy (ptr : Byte)
  | styZpx (a : Byte)
  | staZpx (a : Byte)
  | stxZpy (a : Byte)
  | saxZpy (a : Byte)
  | staAby (w : Addr)
  | tas (w : Addr)
  | shy (w : Addr)
  | staAbx (w : Addr)
  | shx (w : Addr)
  | ahxAby (w : Addr)
  | ldyImm (v : Byte)
  | ldaIzx (ptr : Byte)
  | ldxImm (v : Byte)
  | laxIzx (ptr : Byte)
  | ldyZp (a : Byte)
  | ldaZp (a : Byte)
  | ldxZp (a : Byte)
  | laxZp (a : Byte)
  | ldaImm (v : Byte)
  | laxImm (v : Byte)
  | ldyAbs (w : Addr)
  | ldaAbs (w : Addr)
  | ldxAbs (w : Addr)
  | laxAbs (w : Addr)
  | bcs (off : Byte)
  | ldaIzy (ptr : Byte)
  | laxIzy (ptr : Byte)
  | ldyZpx (a : Byte)
  | ldaZpx (a : Byte)
  | ldxZpy (a : Byte)
  | laxZpy (a : Byte)
  | ldaAby (w : Addr)
  | las (w : Addr)
  | ldyAbx (w : Addr)
  | ldaAbx (w : Addr)
  | ldxAby (w : Addr)
  | laxAby (w : Addr)
  | cpyImm (v : Byte)
  | cmpIzx (ptr : Byte)
  | nopImmC2 (v : Byte)
  | dcpIzx (ptr : Byte)
  | cpyZp (a : Byte)
  | cmpZp (a : Byte)
  | decZp (a : Byte)
  | dcpZp (a : Byte)
  | cmpImm (v : Byte)
  | axs (v : Byte)
  | cpyAbs (w : Addr)
  | cmpAbs (w : Addr)
  | decAbs (w : Addr)
  | dcpAbs (w : Addr)
  | bne (off : Byte)
  | cmpIzy (ptr : Byte)
  | dcpIzy (ptr : Byte)
  | nopZpxD4 (a : Byte)
  | cmpZpx (a : Byte)
  | decZpx (a : Byte)
  | dcpZpx (a : Byte)
  | cmpAby (w : Addr)
  | dcpAby (w : Addr)
  | nopAbxDC (w : Addr)
  | cmpAbx (w : Addr)
  | decAbx (w : Addr)
  | dcpAbx (w : Addr)
  | cpxImm (v : Byte)
  | sbcIzx (ptr : Byte)
  | nopImmE2 (v : Byte)
  | iscIzx (ptr : Byte)
  | cpxZp (a : Byte)
  | sbcZp (a : Byte)
  | incZp (a : Byte)
  | iscZp (a : Byte)
  | sbcImm (v : Byte)
  | sbcImmEB (v : Byte)
  | cpxAbs (w : Addr)
  | sbcAbs (w : Addr)
  | incAbs (w : Addr)
  | iscAbs (w : Addr)
  | beq (off : Byte)
  | sbcIzy (ptr : Byte)
  | iscIzy (ptr : Byte)
  | nopZpxF4 (a : Byte)
  | sbcZpx (a : Byte)
  | incZpx (a : Byte)
  | iscZpx (a : Byte)
  | sbcAby (w : Addr)
  | iscAby (w : Addr)
  | nopAbxFC (w : Addr)
  | sbcAbx (w : Addr)
  | incAbx (w : Addr)
  | iscAbx (w : Addr)
  | brk
  | kil02
  | php
  | aslAcc
  | kil12
  | clc
  | nop1A
  | kil22
  | plp
  | rolAcc
  | kil32
  | sec
  | nop3A
  | rti
  | kil42
  | pha
  | lsrAcc
  | kil52
  | cli
  | nop5A
  | rts
  | kil62
  | pla
  | rorAcc
  | kil72
  | sei
  | nop7A
  | dey
  | txa
  | kil92
  | tya
  | txs
  | tay
  | tax
  | kilB2
  | clv
  | tsx
  | iny
  | dex
  | kilD2
  | cld
  | nopDA
  | inx
  | nop
  | kilF2
  | sed
  | nopFA
  deriving DecidableEq, Repr

/-- The `mnemonic` column of R76: it alone selects the handler (R99). -/
def Instr.mnemonic : Instr → Mnemonic
  | .brk => .BRK
  | .oraIzx _ => .ORA
  | .kil02 => .KIL
  | .sloIzx _ => .SLO
  | .nopZp04 _ => .NOP
  | .oraZp _ => .ORA
  | .aslZp _ => .ASL
  | .sloZp _ => .SLO
  | .php => .PHP
  | .oraImm _ => .ORA
  | .aslAcc => .ASL
  | .ancImm0B _ => .ANC
  | .nopAbs _ => .NOP
  | .oraAbs _ => .ORA
  | .aslAbs _ => .ASL
  | .sloAbs _ => .SLO
  | .bpl _ => .BPL
  | .oraIzy _ => .ORA
  | .kil12 => .KIL
  | .sloIzy _ => .SLO
  | .nopZpx14 _ => .NOP
  | .oraZpx _ => .ORA
  | .aslZpx _ => .ASL
  | .sloZpx _ => .SLO
  | .clc => .CLC
  | .oraAby _ => .ORA
  | .nop1A => .NOP
  | .sloAby _ => .SLO
  | .nopAbx1C _ => .NOP
  | .oraAbx _ => .ORA
  | .aslAbx _ => .ASL
  | .sloAbx _ => .SLO
  | .jsr _ => .JSR
  | .andIzx _ => .AND
  | .kil22 => .KIL
  | .rlaIzx _ => .RLA
  | .bitZp _ => .BIT
  | .andZp _ => .AND
  | .rolZp _ => .ROL
  | .rlaZp _ => .RLA
  | .plp => .PLP
  | .andImm _ => .AND
  | .rolAcc => .ROL
  | .ancImm2B _ => .ANC
  | .bitAbs _ => .BIT
  | .andAbs _ => .AND
  | .rolAbs _ => .ROL
  | .rlaAbs _ => .RLA
  | .bmi _ => .BMI
  | .andIzy _ => .AND
  | .kil32 => .KIL
  | .rlaIzy _ => .RLA
  | .nopZpx34 _ => .NOP
  | .andZpx _ => .AND
  | .rolZpx _ => .ROL
  | .rlaZpx _ => .RLA
  | .sec => .SEC
  | .andAby _ => .AND
  | .nop3A => .NOP
  | .rlaAby _ => .RLA
  | .nopAbx3C _ => .NOP
  | .andAbx _ => .AND
  | .rolAbx _ => .ROL
  | .rlaAbx _ => .RLA
  | .rti => .RTI
  | .eorIzx _ => .EOR
  | .kil42 => .KIL
  | .sreIzx _ => .SRE
  | .nopZp44 _ => .NOP
  | .eorZp _ => .EOR
  | .lsrZp _ => .LSR
  | .sreZp _ => .SRE
  | .pha => .PHA
  | .eorImm _ => .EOR
  | .lsrAcc => .LSR
  | .alr _ => .ALR
  | .jmpAbs _ => .JMP
  | .eorAbs _ => .EOR
  | .lsrAbs _ => .LSR
  | .sreAbs _ => .SRE
  | .bvc _ => .BVC
  | .eorIzy _ => .EOR
  | .kil52 => .KIL
  | .sreIzy _ => .SRE
  | .nopZpx54 _ => .NOP
  | .eorZpx _ => .EOR
  | .lsrZpx _ => .LSR
  | .sreZpx _ => .SRE
  | .cli => .CLI
  | .eorAby _ => .EOR
  | .nop5A => .NOP
  | .sreAby _ => .SRE
  | .nopAbx5C _ => .NOP
  | .eorAbx _ => .EOR
  | .lsrAbx _ => .LSR
  | .sreAbx _ => .SRE
  | .rts => .RTS
  | .adcIzx _ => .ADC
  | .kil62 => .KIL
  | .rraIzx _ => .RRA
  | .nopZp64 _ => .NOP
  | .adcZp _ => .ADC
  | .rorZp _ => .ROR
  | .rraZp _ => .RRA
  | .pla => .PLA
  | .adcImm _ => .ADC
  | .rorAcc => .ROR
  | .arr _ => .ARR
  | .jmpInd _ => .JMP
  | .adcAbs _ => .ADC
  | .rorAbs _ => .ROR
  | .rraAbs _ => .RRA
  | .bvs _ => .BVS
  | .adcIzy _ => .ADC
  | .kil72 => .KIL
  | .rraIzy _ => .RRA
  | .nopZpx74 _ => .NOP
  | .adcZpx _ => .ADC
  | .rorZpx _ => .ROR
  | .rraZpx _ => .RRA
  | .sei => .SEI
  | .adcAby _ => .ADC
  | .nop7A => .NOP
  | .rraAby _ => .RRA
  | .nopAbx7C _ => .NOP
  | .adcAbx _ => .ADC
  | .rorAbx _ => .ROR
  | .rraAbx _ => .RRA
  | .nopImm80 _ => .NOP
  | .staIzx _ => .STA
  | .nopImm82 _ => .NOP
  | .saxIzx _ => .SAX
  | .styZp _ => .STY
  | .staZp _ => .STA
  | .stxZp _ => .STX
  | .saxZp _ => .SAX
  | .dey => .DEY
  | .nopImm89 _ => .NOP
  | .txa => .TXA
  | .xaa _ => .XAA
  | .styAbs _ => .STY
  | .staAbs _ => .STA
  | .stxAbs _ => .STX
  | .saxAbs _ => .SAX
  | .bcc _ => .BCC
  | .staIzy _ => .STA
  | .kil92 => .KIL
  | .ahxIzy _ => .AHX
  | .styZpx _ => .STY
  | .staZpx _ => .STA
  | .stxZpy _ => .STX
  | .saxZpy _ => .SAX
  | .tya => .TYA
  | .staAby _ => .STA
  | .txs => .TXS
  | .tas _ => .TAS
  | .shy _ => .SHY
  | .staAbx _ => .STA
  | .shx _ => .SHX
  | .ahxAby _ => .AHX
  | .ldyImm _ => .LDY
  | .ldaIzx _ => .LDA
  | .ldxImm _ => .LDX
  | .laxIzx _ => .LAX
  | .ldyZp _ => .LDY
  | .ldaZp _ => .LDA
  | .ldxZp _ => .LDX
  | .laxZp _ => .LAX
  | .tay => .TAY
  | .ldaImm _ => .LDA
  | .tax => .TAX
  | .laxImm _ => .LAX
  | .ldyAbs _ => .LDY
  | .ldaAbs _ => .LDA
  | .ldxAbs _ => .LDX
  | .laxAbs _ => .LAX
  | .bcs _ => .BCS
  | .ldaIzy _ => .LDA
  | .kilB2 => .KIL
  | .laxIzy _ => .LAX
  | .ldyZpx _ => .LDY
  | .ldaZpx _ => .LDA
  | .ldxZpy _ => .LDX
  | .laxZpy _ => .LAX
  | .clv => .CLV
  | .ldaAby _ => .LDA
  | .tsx => .TSX
  | .las _ => .LAS
  | .ldyAbx _ => .LDY
  | .ldaAbx _ => .LDA
  | .ldxAby _ => .LDX
  | .laxAby _ => .LAX
  | .cpyImm _ => .CPY
  | .cmpIzx _ => .CMP
  | .nopImmC2 _ => .NOP
  | .dcpIzx _ => .DCP
  | .cpyZp _ => .CPY
  | .cmpZp _ => .CMP
  | .decZp _ => .DEC
  | .dcpZp _ => .DCP
  | .iny => .INY
  | .cmpImm _ => .CMP
  | .dex => .DEX
  | .axs _ => .AXS
  | .cpyAbs _ => .CPY
  | .cmpAbs _ => .CMP
  | .decAbs _ => .DEC
  | .dcpAbs _ => .DCP
  | .bne _ => .BNE
  | .cmpIzy _ => .CMP
  | .kilD2 => .KIL
  | .dcpIzy _ => .DCP
  | .nopZpxD4 _ => .NOP
  | .cmpZpx _ => .CMP
  | .decZpx _ => .DEC
  | .dcpZpx _ => .DCP
  | .cld => .CLD
  | .cmpAby _ => .CMP
  | .nopDA => .NOP
  | .dcpAby _ => .DCP
  | .nopAbxDC _ => .NOP
  | .cmpAbx _ => .CMP
  | .decAbx _ => .DEC
  | .dcpAbx _ => .DCP
  | .cpxImm _ => .CPX
  | .sbcIzx _ => .SBC
  | .nopImmE2 _ => .NOP
  | .iscIzx _ => .ISC
  | .cpxZp _ => .CPX
  | .sbcZp _ => .SBC
  | .incZp _ => .INC
  | .iscZp _ => .ISC
  | .inx => .INX
  | .sbcImm _ => .SBC
  | .nop => .NOP
  | .sbcImmEB _ => .SBC
  | .cpxAbs _ => .CPX
  | .sbcAbs _ => .SBC
  | .incAbs _ => .INC
  | .iscAbs _ => .ISC
  | .beq _ => .BEQ
  | .sbcIzy _ => .SBC
  | .kilF2 => .KIL
  | .iscIzy _ => .ISC
  | .nopZpxF4 _ => .NOP
  | .sbcZpx _ => .SBC
  | .incZpx _ => .INC
  | .iscZpx _ => .ISC
  | .sed => .SED
  | .sbcAby _ => .SBC
  | .nopFA => .NOP
  | .iscAby _ => .ISC
  | .nopAbxFC _ => .NOP
  | .sbcAbx _ => .SBC
  | .incAbx _ => .INC
  | .iscAbx _ => .ISC

/-- The `mode` column of R76 with the operand bytes. -/
def Instr.operand : Instr → Operand
  | .brk => .implied
  | .oraIzx ptr => .indexedIndirect ptr
  | .kil02 => .implied
  | .sloIzx ptr => .indexedIndirect ptr
  | .nopZp04 a => .zeroPage a
  | .oraZp a => .zeroPage a
  | .aslZp a => .zeroPage a
  | .sloZp a => .zeroPage a
  | .php => .implied
  | .oraImm v => .immediate v
  | .aslAcc => .accumulator
  | .ancImm0B v => .immediate v
  | .nopAbs w => .absolute w
  | .oraAbs w => .absolute w
  | .aslAbs w => .absolute w
  | .sloAbs w => .absolute w
  | .bpl off => .relative off
  | .oraIzy ptr => .indirectIndexed ptr
  | .kil12 => .implied
  | .sloIzy ptr => .indirectIndexed ptr
  | .nopZpx14 a => .zeroPageX a
  | .oraZpx a => .zeroPageX a
  | .aslZpx a => .zeroPageX a
  | .sloZpx a => .zeroPageX a
  | .clc => .implied
  | .oraAby w => .absoluteY w
  | .nop1A => .implied
  | .sloAby w => .absoluteY w
  | .nopAbx1C w => .absoluteX w
  | .oraAbx w => .absoluteX w
  | .aslAbx w => .absoluteX w
  | .sloAbx w => .absoluteX w
  | .jsr w => .absolute w
  | .andIzx ptr => .indexedIndirect ptr
  | .kil22 => .implied
  | .rlaIzx ptr => .indexedIndirect ptr
  | .bitZp a => .zeroPage a
  | .andZp a => .zeroPage a
  | .rolZp a => .zeroPage a
  | .rlaZp a => .zeroPage a
  | .plp => .implied
  | .andImm v => .immediate v
  | .rolAcc => .accumulator
  | .ancImm2B v => .immediate v
  | .bitAbs w => .absolute w
  | .andAbs w => .absolute w
  | .rolAbs w => .absolute w
  | .rlaAbs w => .absolute w
  | .bmi off => .relative off
  | .andIzy ptr => .indirectIndexed ptr
  | .kil32 => .implied
  | .rlaIzy ptr => .indirectIndexed ptr
  | .nopZpx34 a => .zeroPageX a
  | .andZpx a => .zeroPageX a
  | .rolZpx a => .zeroPageX a
  | .rlaZpx a => .zeroPageX a
  | .sec => .implied
  | .andAby w => .absoluteY w
  | .nop3A => .implied
  | .rlaAby w => .absoluteY w
  | .nopAbx3C w => .absoluteX w
  | .andAbx w => .absoluteX w
  | .rolAbx w => .absoluteX w
  | .rlaAbx w => .absoluteX w
  | .rti => .implied
  | .eorIzx ptr => .indexedIndirect ptr
  | .kil42 => .implied
  | .sreIzx ptr => .indexedIndirect ptr
  | .nopZp44 a => .zeroPage a
  | .eorZp a => .zeroPage a
  | .lsrZp a => .zeroPage a
  | .sreZp a => .zeroPage a
  | .pha => .implied
  | .eorImm v => .immediate v
  | .lsrAcc => .accumulator
  | .alr v => .immediate v
  | .jmpAbs w => .absolute w
  | .eorAbs w => .absolute w
  | .lsrAbs w => .absolute w
  | .sreAbs w => .absolute w
  | .bvc off => .relative off
  | .eorIzy ptr => .indirectIndexed ptr
  | .kil52 => .implied
  | .sreIzy ptr => .indirectIndexed ptr
  | .nopZpx54 a => .zeroPageX a
  | .eorZpx a => .zeroPageX a
  | .lsrZpx a => .zeroPageX a
  | .sreZpx a => .zeroPageX a
  | .cli => .implied
  | .eorAby w => .absoluteY w
  | .nop5A => .implied
  | .sreAby w => .absoluteY w
  | .nopAbx5C w => .absoluteX w
  | .eorAbx w => .absoluteX w
  | .lsrAbx w => .absoluteX w
  | .sreAbx w => .absoluteX w
  | .rts => .implied
  | .adcIzx ptr => .indexedIndirect ptr
  | .kil62 => .implied
  | .rraIzx ptr => .indexedIndirect ptr
  | .nopZp64 a => .zeroPage a
  | .adcZp a => .zeroPage a
  | .rorZp a => .zeroPage a
  | .rraZp a => .zeroPage a
  | .pla => .implied
  | .adcImm v => .immediate v
  | .rorAcc => .accumulator
  | .arr v => .immediate v
  | .jmpInd w => .indirect w
  | .adcAbs w => .absolute w
  | .rorAbs w => .absolute w
  | .rraAbs w => .absolute w
  | .bvs off => .relative off
  | .adcIzy ptr => .indirectIndexed ptr
  | .kil72 => .implied
  | .rraIzy ptr => .indirectIndexed ptr
  | .nopZpx74 a => .zeroPageX a
  | .adcZpx a => .zeroPageX a
  | .rorZpx a => .zeroPageX a
  | .rraZpx a => .zeroPageX a
  | .sei => .implied
  | .adcAby w => .absoluteY w
  | .nop7A => .implied
  | .rraAby w => .absoluteY w
  | .nopAbx7C w => .absoluteX w
  | .adcAbx w => .absoluteX w
  | .rorAbx w => .absoluteX w
  | .rraAbx w => .absoluteX w
  | .nopImm80 v => .immediate v
  | .staIzx ptr => .indexedIndirect ptr
  | .nopImm82 v => .immediate v
  | .saxIzx ptr => .indexedIndirect ptr
  | .styZp a => .zeroPage a
  | .staZp a => .zeroPage a
  | .stxZp a => .zeroPage a
  | .saxZp a => .zeroPage a
  | .dey => .implied
  | .nopImm89 v => .immediate v
  | .txa => .implied
  | .xaa v => .immediate v
  | .styAbs w => .absolute w
  | .staAbs w => .absolute w
  | .stxAbs w => .absolute w
  | .saxAbs w => .absolute w
  | .bcc off => .relative off
  | .staIzy ptr => .indirectIndexed ptr
  | .kil92 => .implied
  | .ahxIzy ptr => .indirectIndexed ptr
  | .styZpx a => .zeroPageX a
  | .staZpx a => .zeroPageX a
  | .stxZpy a => .zeroPageY a
  | .saxZpy a => .zeroPageY a
  | .tya => .implied
  | .staAby w => .absoluteY w
  | .txs => .implied
  | .tas w => .absoluteY w
  | .shy w => .absoluteX w
  | .staAbx w => .absoluteX w
  | .shx w => .absoluteY w
  | .ahxAby w => .absoluteY w
  | .ldyImm v => .immediate v
  | .ldaIzx ptr => .indexedIndirect ptr
  | .ldxImm v => .immediate v
  | .laxIzx ptr => .indexedIndirect ptr
  | .ldyZp a => .zeroPage a
  | .ldaZp a => .zeroPage a
  | .ldxZp a => .zeroPage a
  | .laxZp a => .zeroPage a
  | .tay => .implied
  | .ldaImm v => .immediate v
  | .tax => .implied
  | .laxImm v => .immediate v
  | .ldyAbs w => .absolute w
  | .ldaAbs w => .absolute w
  | .ldxAbs w => .absolute w
  | .laxAbs w => .absolute w
  | .bcs off => .relative off
  | .ldaIzy ptr => .indirectIndexed ptr
  | .kilB2 => .implied
  | .laxIzy ptr => .indirectIndexed ptr
  | .ldyZpx a => .zeroPageX a
  | .ldaZpx a => .zeroPageX a
  | .ldxZpy a => .zeroPageY a
  | .laxZpy a => .zeroPageY a
  | .clv => .implied
  | .ldaAby w => .absoluteY w
  | .tsx => .implied
  | .las w => .absoluteY w
  | .ldyAbx w => .absoluteX w
  | .ldaAbx w => .absoluteX w
  | .ldxAby w => .absoluteY w
  | .laxAby w => .absoluteY w
  | .cpyImm v => .immediate v
  | .cmpIzx ptr => .indexedIndirect ptr
  | .nopImmC2 v => .immediate v
  | .dcpIzx ptr => .indexedIndirect ptr
  | .cpyZp a => .zeroPage a
  | .cmpZp a => .zeroPage a
  | .decZp a => .zeroPage a
  | .dcpZp a => .zeroPage a
  | .iny => .implied
  | .cmpImm v => .immediate v
  | .dex => .implied
  | .axs v => .immediate v
  | .cpyAbs w => .absolute w
  | .cmpAbs w => .absolute w
  | .decAbs w => .absolute w
  | .dcpAbs w => .absolute w
  | .bne off => .relative off
  | .cmpIzy ptr => .indirectIndexed ptr
  | .kilD2 => .implied
  | .dcpIzy ptr => .indirectIndexed ptr
  | .nopZpxD4 a => .zeroPageX a
  | .cmpZpx a => .zeroPageX a
  | .decZpx a => .zeroPageX a
  | .dcpZpx a => .zeroPageX a
  | .cld => .implied
  | .cmpAby w => .absoluteY w
  | .nopDA => .implied
  | .dcpAby w => .absoluteY w
  | .nopAbxDC w => .absoluteX w
  | .cmpAbx w => .absoluteX w
  | .decAbx w => .absoluteX w
  | .dcpAbx w => .absoluteX w
  | .cpxImm v => .immediate v
  | .sbcIzx ptr => .indexedIndirect ptr
  | .nopImmE2 v => .immediate v
  | .iscIzx ptr => .indexedIndirect ptr
  | .cpxZp a => .zeroPage a
  | .sbcZp a => .zeroPage a
  | .incZp a => .zeroPage a
  | .iscZp a => .zeroPage a
  | .inx => .implied
  | .sbcImm v => .immediate v
  | .nop => .implied
  | .sbcImmEB v => .immediate v
  | .cpxAbs w => .absolute w
  | .sbcAbs w => .absolute w
  | .incAbs w => .absolute w
  | .iscAbs w => .absolute w
  | .beq off => .relative off
  | .sbcIzy ptr => .indirectIndexed ptr
  | .kilF2 => .implied
  | .iscIzy ptr => .indirectIndexed ptr
  | .nopZpxF4 a => .zeroPageX a
  | .sbcZpx a => .zeroPageX a
  | .incZpx a => .zeroPageX a
  | .iscZpx a => .zeroPageX a
  | .sed => .implied
  | .sbcAby w => .absoluteY w
  | .nopFA => .implied
  | .iscAby w => .absoluteY w
  | .nopAbxFC w => .absoluteX w
  | .sbcAbx w => .absoluteX w
  | .incAbx w => .absoluteX w
  | .iscAbx w => .absoluteX w

end Sys2Proof
end

