-- ==== Sys2Proof/WellFormed.lean ====
section
/-! DEFINITION. Which mnemonic goes with which addressing mode, from the Encodings lines of the instruction rules
(spec/41 to spec/48, R100 to R320), and the assembler's range check on a branch target (spec/30_encoding.md R78).
`Instr` has a constructor only for a legal pair, so the checks bite on the pairs an assembler is handed. -/

namespace Sys2Proof

/-- The modes the instruction rules list for a mnemonic under Encodings (R100 to R187, R301 to R320). -/
def legalModes : Mnemonic → List Mode
  | .LDA => [.immediate, .zeroPage, .zeroPageX, .absolute, .absoluteX, .absoluteY, .indexedIndirect, .indirectIndexed]
  | .LDX => [.immediate, .zeroPage, .zeroPageY, .absolute, .absoluteY]
  | .LDY => [.immediate, .zeroPage, .zeroPageX, .absolute, .absoluteX]
  | .STA => [.zeroPage, .zeroPageX, .absolute, .absoluteX, .absoluteY, .indexedIndirect, .indirectIndexed]
  | .STX => [.zeroPage, .zeroPageY, .absolute]
  | .STY => [.zeroPage, .zeroPageX, .absolute]
  | .ADC | .SBC | .AND | .ORA | .EOR | .CMP =>
    [.immediate, .zeroPage, .zeroPageX, .absolute, .absoluteX, .absoluteY, .indexedIndirect, .indirectIndexed]
  | .CPX | .CPY => [.immediate, .zeroPage, .absolute]
  | .BIT => [.zeroPage, .absolute]
  | .INC | .DEC => [.zeroPage, .zeroPageX, .absolute, .absoluteX]
  | .ASL | .LSR | .ROL | .ROR => [.accumulator, .zeroPage, .zeroPageX, .absolute, .absoluteX]
  | .JMP => [.absolute, .indirect]
  | .JSR => [.absolute]
  | .BCC | .BCS | .BEQ | .BMI | .BNE | .BPL | .BVC | .BVS => [.relative]
  | .NOP => [.implied, .immediate, .zeroPage, .zeroPageX, .absolute, .absoluteX]
  | .TAX | .TAY | .TXA | .TYA | .TSX | .TXS | .PHA | .PHP | .PLA | .PLP | .INX | .INY | .DEX | .DEY
  | .RTS | .RTI | .BRK | .CLC | .CLD | .CLI | .CLV | .SEC | .SED | .SEI | .KIL => [.implied]
  | .SLO | .RLA | .SRE | .RRA | .DCP | .ISC =>
    [.indexedIndirect, .zeroPage, .absolute, .indirectIndexed, .zeroPageX, .absoluteY, .absoluteX]
  | .SAX => [.indexedIndirect, .zeroPage, .absolute, .zeroPageY]
  | .LAX => [.indexedIndirect, .zeroPage, .immediate, .absolute, .indirectIndexed, .zeroPageY, .absoluteY]
  | .ANC | .ALR | .ARR | .XAA | .AXS => [.immediate]
  | .AHX => [.indirectIndexed, .absoluteY]
  | .TAS | .SHX | .LAS => [.absoluteY]
  | .SHY => [.absoluteX]

/-- The mnemonic has a slot in this mode. -/
def modeLegal (m : Mnemonic) (o : Operand) : Bool := (legalModes m).contains o.mode

/-- A branch at `p` reaches `target` (R78): `-128 ≤ target - (p + 2) ≤ 127`. -/
def branchInRange (p target : Addr) : Bool :=
  let d := (target - (p + 2)).toInt
  decide (-128 ≤ d ∧ d ≤ 127)

/-- An instruction's mnemonic and mode are a pair the rules list. -/
def Instr.WellFormed (i : Instr) : Bool := modeLegal i.mnemonic i.operand

end Sys2Proof
end

