-- ==== Sys2Proof/Decode.lean ====
section
/-! DEFINITION. The opcode metadata ROM (spec/10_state.md R42, spec/30_encoding.md R76), the decoder, total on any bytes
(R71 to R73), and after it the encoder. Every one of the 256 opcode bytes is an instruction (R77), so the decoder's only
rejections are of byte strings that are too short. -/

namespace Sys2Proof

/-- `hi(w)` (R11). -/
def hiByte (w : Addr) : Byte := w.extractLsb' 8 8

/-- `lo(w)` (R11). -/
def loByte (w : Addr) : Byte := w.extractLsb' 0 8

/-- `(high << 8) | low` (R11); with `low` the first byte, the little-endian word (R60, R73). -/
def mkWord (high low : Byte) : Addr := high ++ low

/-- The three classes of slots with and without a handler (R77). -/
inductive Slot where
  | documented  -- a handler, always
  | aliased     -- a documented mnemonic in an undocumented slot: a handler when `UNDOC_ALIASES` (R320, R321)
  | absent      -- no handler: IllegalOpcode (R219)
  deriving DecidableEq, Repr

/-- One entry of the ROM (R42). -/
structure Entry where
  mnemonic : Mnemonic
  mode : Mode
  length : Nat
  baseCycles : Nat
  pageBonus : Nat
  slot : Slot
  deriving DecidableEq, Repr

/-- Slots 0x0x of R76, by low nibble. -/
def optableRow0 (low : Nat) : Entry :=
  match low with
  | 0 => ⟨.BRK, .implied, 1, 7, 0, .documented⟩
  | 1 => ⟨.ORA, .indexedIndirect, 2, 6, 0, .documented⟩
  | 2 => ⟨.KIL, .implied, 1, 2, 0, .absent⟩
  | 3 => ⟨.SLO, .indexedIndirect, 2, 8, 0, .absent⟩
  | 4 => ⟨.NOP, .zeroPage, 2, 3, 0, .aliased⟩
  | 5 => ⟨.ORA, .zeroPage, 2, 3, 0, .documented⟩
  | 6 => ⟨.ASL, .zeroPage, 2, 5, 0, .documented⟩
  | 7 => ⟨.SLO, .zeroPage, 2, 5, 0, .absent⟩
  | 8 => ⟨.PHP, .implied, 1, 3, 0, .documented⟩
  | 9 => ⟨.ORA, .immediate, 2, 2, 0, .documented⟩
  | 10 => ⟨.ASL, .accumulator, 1, 2, 0, .documented⟩
  | 11 => ⟨.ANC, .immediate, 2, 2, 0, .absent⟩
  | 12 => ⟨.NOP, .absolute, 3, 4, 0, .aliased⟩
  | 13 => ⟨.ORA, .absolute, 3, 4, 0, .documented⟩
  | 14 => ⟨.ASL, .absolute, 3, 6, 0, .documented⟩
  | _ => ⟨.SLO, .absolute, 3, 6, 0, .absent⟩

/-- Slots 0x1x of R76, by low nibble. -/
def optableRow1 (low : Nat) : Entry :=
  match low with
  | 0 => ⟨.BPL, .relative, 2, 2, 0, .documented⟩
  | 1 => ⟨.ORA, .indirectIndexed, 2, 5, 1, .documented⟩
  | 2 => ⟨.KIL, .implied, 1, 2, 0, .absent⟩
  | 3 => ⟨.SLO, .indirectIndexed, 2, 8, 0, .absent⟩
  | 4 => ⟨.NOP, .zeroPageX, 2, 4, 0, .aliased⟩
  | 5 => ⟨.ORA, .zeroPageX, 2, 4, 0, .documented⟩
  | 6 => ⟨.ASL, .zeroPageX, 2, 6, 0, .documented⟩
  | 7 => ⟨.SLO, .zeroPageX, 2, 6, 0, .absent⟩
  | 8 => ⟨.CLC, .implied, 1, 2, 0, .documented⟩
  | 9 => ⟨.ORA, .absoluteY, 3, 4, 1, .documented⟩
  | 10 => ⟨.NOP, .implied, 1, 2, 0, .aliased⟩
  | 11 => ⟨.SLO, .absoluteY, 3, 7, 0, .absent⟩
  | 12 => ⟨.NOP, .absoluteX, 3, 4, 1, .aliased⟩
  | 13 => ⟨.ORA, .absoluteX, 3, 4, 1, .documented⟩
  | 14 => ⟨.ASL, .absoluteX, 3, 7, 0, .documented⟩
  | _ => ⟨.SLO, .absoluteX, 3, 7, 0, .absent⟩

/-- Slots 0x2x of R76, by low nibble. -/
def optableRow2 (low : Nat) : Entry :=
  match low with
  | 0 => ⟨.JSR, .absolute, 3, 6, 0, .documented⟩
  | 1 => ⟨.AND, .indexedIndirect, 2, 6, 0, .documented⟩
  | 2 => ⟨.KIL, .implied, 1, 2, 0, .absent⟩
  | 3 => ⟨.RLA, .indexedIndirect, 2, 8, 0, .absent⟩
  | 4 => ⟨.BIT, .zeroPage, 2, 3, 0, .documented⟩
  | 5 => ⟨.AND, .zeroPage, 2, 3, 0, .documented⟩
  | 6 => ⟨.ROL, .zeroPage, 2, 5, 0, .documented⟩
  | 7 => ⟨.RLA, .zeroPage, 2, 5, 0, .absent⟩
  | 8 => ⟨.PLP, .implied, 1, 4, 0, .documented⟩
  | 9 => ⟨.AND, .immediate, 2, 2, 0, .documented⟩
  | 10 => ⟨.ROL, .accumulator, 1, 2, 0, .documented⟩
  | 11 => ⟨.ANC, .immediate, 2, 2, 0, .absent⟩
  | 12 => ⟨.BIT, .absolute, 3, 4, 0, .documented⟩
  | 13 => ⟨.AND, .absolute, 3, 4, 0, .documented⟩
  | 14 => ⟨.ROL, .absolute, 3, 6, 0, .documented⟩
  | _ => ⟨.RLA, .absolute, 3, 6, 0, .absent⟩

/-- Slots 0x3x of R76, by low nibble. -/
def optableRow3 (low : Nat) : Entry :=
  match low with
  | 0 => ⟨.BMI, .relative, 2, 2, 0, .documented⟩
  | 1 => ⟨.AND, .indirectIndexed, 2, 5, 1, .documented⟩
  | 2 => ⟨.KIL, .implied, 1, 2, 0, .absent⟩
  | 3 => ⟨.RLA, .indirectIndexed, 2, 8, 0, .absent⟩
  | 4 => ⟨.NOP, .zeroPageX, 2, 4, 0, .aliased⟩
  | 5 => ⟨.AND, .zeroPageX, 2, 4, 0, .documented⟩
  | 6 => ⟨.ROL, .zeroPageX, 2, 6, 0, .documented⟩
  | 7 => ⟨.RLA, .zeroPageX, 2, 6, 0, .absent⟩
  | 8 => ⟨.SEC, .implied, 1, 2, 0, .documented⟩
  | 9 => ⟨.AND, .absoluteY, 3, 4, 1, .documented⟩
  | 10 => ⟨.NOP, .implied, 1, 2, 0, .aliased⟩
  | 11 => ⟨.RLA, .absoluteY, 3, 7, 0, .absent⟩
  | 12 => ⟨.NOP, .absoluteX, 3, 4, 1, .aliased⟩
  | 13 => ⟨.AND, .absoluteX, 3, 4, 1, .documented⟩
  | 14 => ⟨.ROL, .absoluteX, 3, 7, 0, .documented⟩
  | _ => ⟨.RLA, .absoluteX, 3, 7, 0, .absent⟩

/-- Slots 0x4x of R76, by low nibble. -/
def optableRow4 (low : Nat) : Entry :=
  match low with
  | 0 => ⟨.RTI, .implied, 1, 6, 0, .documented⟩
  | 1 => ⟨.EOR, .indexedIndirect, 2, 6, 0, .documented⟩
  | 2 => ⟨.KIL, .implied, 1, 2, 0, .absent⟩
  | 3 => ⟨.SRE, .indexedIndirect, 2, 8, 0, .absent⟩
  | 4 => ⟨.NOP, .zeroPage, 2, 3, 0, .aliased⟩
  | 5 => ⟨.EOR, .zeroPage, 2, 3, 0, .documented⟩
  | 6 => ⟨.LSR, .zeroPage, 2, 5, 0, .documented⟩
  | 7 => ⟨.SRE, .zeroPage, 2, 5, 0, .absent⟩
  | 8 => ⟨.PHA, .implied, 1, 3, 0, .documented⟩
  | 9 => ⟨.EOR, .immediate, 2, 2, 0, .documented⟩
  | 10 => ⟨.LSR, .accumulator, 1, 2, 0, .documented⟩
  | 11 => ⟨.ALR, .immediate, 2, 2, 0, .absent⟩
  | 12 => ⟨.JMP, .absolute, 3, 3, 0, .documented⟩
  | 13 => ⟨.EOR, .absolute, 3, 4, 0, .documented⟩
  | 14 => ⟨.LSR, .absolute, 3, 6, 0, .documented⟩
  | _ => ⟨.SRE, .absolute, 3, 6, 0, .absent⟩

/-- Slots 0x5x of R76, by low nibble. -/
def optableRow5 (low : Nat) : Entry :=
  match low with
  | 0 => ⟨.BVC, .relative, 2, 2, 0, .documented⟩
  | 1 => ⟨.EOR, .indirectIndexed, 2, 5, 1, .documented⟩
  | 2 => ⟨.KIL, .implied, 1, 2, 0, .absent⟩
  | 3 => ⟨.SRE, .indirectIndexed, 2, 8, 0, .absent⟩
  | 4 => ⟨.NOP, .zeroPageX, 2, 4, 0, .aliased⟩
  | 5 => ⟨.EOR, .zeroPageX, 2, 4, 0, .documented⟩
  | 6 => ⟨.LSR, .zeroPageX, 2, 6, 0, .documented⟩
  | 7 => ⟨.SRE, .zeroPageX, 2, 6, 0, .absent⟩
  | 8 => ⟨.CLI, .implied, 1, 2, 0, .documented⟩
  | 9 => ⟨.EOR, .absoluteY, 3, 4, 1, .documented⟩
  | 10 => ⟨.NOP, .implied, 1, 2, 0, .aliased⟩
  | 11 => ⟨.SRE, .absoluteY, 3, 7, 0, .absent⟩
  | 12 => ⟨.NOP, .absoluteX, 3, 4, 1, .aliased⟩
  | 13 => ⟨.EOR, .absoluteX, 3, 4, 1, .documented⟩
  | 14 => ⟨.LSR, .absoluteX, 3, 7, 0, .documented⟩
  | _ => ⟨.SRE, .absoluteX, 3, 7, 0, .absent⟩

/-- Slots 0x6x of R76, by low nibble. -/
def optableRow6 (low : Nat) : Entry :=
  match low with
  | 0 => ⟨.RTS, .implied, 1, 6, 0, .documented⟩
  | 1 => ⟨.ADC, .indexedIndirect, 2, 6, 0, .documented⟩
  | 2 => ⟨.KIL, .implied, 1, 2, 0, .absent⟩
  | 3 => ⟨.RRA, .indexedIndirect, 2, 8, 0, .absent⟩
  | 4 => ⟨.NOP, .zeroPage, 2, 3, 0, .aliased⟩
  | 5 => ⟨.ADC, .zeroPage, 2, 3, 0, .documented⟩
  | 6 => ⟨.ROR, .zeroPage, 2, 5, 0, .documented⟩
  | 7 => ⟨.RRA, .zeroPage, 2, 5, 0, .absent⟩
  | 8 => ⟨.PLA, .implied, 1, 4, 0, .documented⟩
  | 9 => ⟨.ADC, .immediate, 2, 2, 0, .documented⟩
  | 10 => ⟨.ROR, .accumulator, 1, 2, 0, .documented⟩
  | 11 => ⟨.ARR, .immediate, 2, 2, 0, .absent⟩
  | 12 => ⟨.JMP, .indirect, 3, 5, 0, .documented⟩
  | 13 => ⟨.ADC, .absolute, 3, 4, 0, .documented⟩
  | 14 => ⟨.ROR, .absolute, 3, 6, 0, .documented⟩
  | _ => ⟨.RRA, .absolute, 3, 6, 0, .absent⟩

/-- Slots 0x7x of R76, by low nibble. -/
def optableRow7 (low : Nat) : Entry :=
  match low with
  | 0 => ⟨.BVS, .relative, 2, 2, 0, .documented⟩
  | 1 => ⟨.ADC, .indirectIndexed, 2, 5, 1, .documented⟩
  | 2 => ⟨.KIL, .implied, 1, 2, 0, .absent⟩
  | 3 => ⟨.RRA, .indirectIndexed, 2, 8, 0, .absent⟩
  | 4 => ⟨.NOP, .zeroPageX, 2, 4, 0, .aliased⟩
  | 5 => ⟨.ADC, .zeroPageX, 2, 4, 0, .documented⟩
  | 6 => ⟨.ROR, .zeroPageX, 2, 6, 0, .documented⟩
  | 7 => ⟨.RRA, .zeroPageX, 2, 6, 0, .absent⟩
  | 8 => ⟨.SEI, .implied, 1, 2, 0, .documented⟩
  | 9 => ⟨.ADC, .absoluteY, 3, 4, 1, .documented⟩
  | 10 => ⟨.NOP, .implied, 1, 2, 0, .aliased⟩
  | 11 => ⟨.RRA, .absoluteY, 3, 7, 0, .absent⟩
  | 12 => ⟨.NOP, .absoluteX, 3, 4, 1, .aliased⟩
  | 13 => ⟨.ADC, .absoluteX, 3, 4, 1, .documented⟩
  | 14 => ⟨.ROR, .absoluteX, 3, 7, 0, .documented⟩
  | _ => ⟨.RRA, .absoluteX, 3, 7, 0, .absent⟩

/-- Slots 0x8x of R76, by low nibble. -/
def optableRow8 (low : Nat) : Entry :=
  match low with
  | 0 => ⟨.NOP, .immediate, 2, 2, 0, .aliased⟩
  | 1 => ⟨.STA, .indexedIndirect, 2, 6, 0, .documented⟩
  | 2 => ⟨.NOP, .immediate, 2, 2, 0, .aliased⟩
  | 3 => ⟨.SAX, .indexedIndirect, 2, 6, 0, .absent⟩
  | 4 => ⟨.STY, .zeroPage, 2, 3, 0, .documented⟩
  | 5 => ⟨.STA, .zeroPage, 2, 3, 0, .documented⟩
  | 6 => ⟨.STX, .zeroPage, 2, 3, 0, .documented⟩
  | 7 => ⟨.SAX, .zeroPage, 2, 3, 0, .absent⟩
  | 8 => ⟨.DEY, .implied, 1, 2, 0, .documented⟩
  | 9 => ⟨.NOP, .immediate, 2, 2, 0, .aliased⟩
  | 10 => ⟨.TXA, .implied, 1, 2, 0, .documented⟩
  | 11 => ⟨.XAA, .immediate, 2, 2, 0, .absent⟩
  | 12 => ⟨.STY, .absolute, 3, 4, 0, .documented⟩
  | 13 => ⟨.STA, .absolute, 3, 4, 0, .documented⟩
  | 14 => ⟨.STX, .absolute, 3, 4, 0, .documented⟩
  | _ => ⟨.SAX, .absolute, 3, 4, 0, .absent⟩

/-- Slots 0x9x of R76, by low nibble. -/
def optableRow9 (low : Nat) : Entry :=
  match low with
  | 0 => ⟨.BCC, .relative, 2, 2, 0, .documented⟩
  | 1 => ⟨.STA, .indirectIndexed, 2, 6, 0, .documented⟩
  | 2 => ⟨.KIL, .implied, 1, 2, 0, .absent⟩
  | 3 => ⟨.AHX, .indirectIndexed, 2, 6, 0, .absent⟩
  | 4 => ⟨.STY, .zeroPageX, 2, 4, 0, .documented⟩
  | 5 => ⟨.STA, .zeroPageX, 2, 4, 0, .documented⟩
  | 6 => ⟨.STX, .zeroPageY, 2, 4, 0, .documented⟩
  | 7 => ⟨.SAX, .zeroPageY, 2, 4, 0, .absent⟩
  | 8 => ⟨.TYA, .implied, 1, 2, 0, .documented⟩
  | 9 => ⟨.STA, .absoluteY, 3, 5, 0, .documented⟩
  | 10 => ⟨.TXS, .implied, 1, 2, 0, .documented⟩
  | 11 => ⟨.TAS, .absoluteY, 3, 5, 0, .absent⟩
  | 12 => ⟨.SHY, .absoluteX, 3, 5, 0, .absent⟩
  | 13 => ⟨.STA, .absoluteX, 3, 5, 0, .documented⟩
  | 14 => ⟨.SHX, .absoluteY, 3, 5, 0, .absent⟩
  | _ => ⟨.AHX, .absoluteY, 3, 5, 0, .absent⟩

/-- Slots 0xAx of R76, by low nibble. -/
def optableRowA (low : Nat) : Entry :=
  match low with
  | 0 => ⟨.LDY, .immediate, 2, 2, 0, .documented⟩
  | 1 => ⟨.LDA, .indexedIndirect, 2, 6, 0, .documented⟩
  | 2 => ⟨.LDX, .immediate, 2, 2, 0, .documented⟩
  | 3 => ⟨.LAX, .indexedIndirect, 2, 6, 0, .absent⟩
  | 4 => ⟨.LDY, .zeroPage, 2, 3, 0, .documented⟩
  | 5 => ⟨.LDA, .zeroPage, 2, 3, 0, .documented⟩
  | 6 => ⟨.LDX, .zeroPage, 2, 3, 0, .documented⟩
  | 7 => ⟨.LAX, .zeroPage, 2, 3, 0, .absent⟩
  | 8 => ⟨.TAY, .implied, 1, 2, 0, .documented⟩
  | 9 => ⟨.LDA, .immediate, 2, 2, 0, .documented⟩
  | 10 => ⟨.TAX, .implied, 1, 2, 0, .documented⟩
  | 11 => ⟨.LAX, .immediate, 2, 2, 0, .absent⟩
  | 12 => ⟨.LDY, .absolute, 3, 4, 0, .documented⟩
  | 13 => ⟨.LDA, .absolute, 3, 4, 0, .documented⟩
  | 14 => ⟨.LDX, .absolute, 3, 4, 0, .documented⟩
  | _ => ⟨.LAX, .absolute, 3, 4, 0, .absent⟩

/-- Slots 0xBx of R76, by low nibble. -/
def optableRowB (low : Nat) : Entry :=
  match low with
  | 0 => ⟨.BCS, .relative, 2, 2, 0, .documented⟩
  | 1 => ⟨.LDA, .indirectIndexed, 2, 5, 1, .documented⟩
  | 2 => ⟨.KIL, .implied, 1, 2, 0, .absent⟩
  | 3 => ⟨.LAX, .indirectIndexed, 2, 5, 1, .absent⟩
  | 4 => ⟨.LDY, .zeroPageX, 2, 4, 0, .documented⟩
  | 5 => ⟨.LDA, .zeroPageX, 2, 4, 0, .documented⟩
  | 6 => ⟨.LDX, .zeroPageY, 2, 4, 0, .documented⟩
  | 7 => ⟨.LAX, .zeroPageY, 2, 4, 0, .absent⟩
  | 8 => ⟨.CLV, .implied, 1, 2, 0, .documented⟩
  | 9 => ⟨.LDA, .absoluteY, 3, 4, 1, .documented⟩
  | 10 => ⟨.TSX, .implied, 1, 2, 0, .documented⟩
  | 11 => ⟨.LAS, .absoluteY, 3, 4, 1, .absent⟩
  | 12 => ⟨.LDY, .absoluteX, 3, 4, 1, .documented⟩
  | 13 => ⟨.LDA, .absoluteX, 3, 4, 1, .documented⟩
  | 14 => ⟨.LDX, .absoluteY, 3, 4, 1, .documented⟩
  | _ => ⟨.LAX, .absoluteY, 3, 4, 1, .absent⟩

/-- Slots 0xCx of R76, by low nibble. -/
def optableRowC (low : Nat) : Entry :=
  match low with
  | 0 => ⟨.CPY, .immediate, 2, 2, 0, .documented⟩
  | 1 => ⟨.CMP, .indexedIndirect, 2, 6, 0, .documented⟩
  | 2 => ⟨.NOP, .immediate, 2, 2, 0, .aliased⟩
  | 3 => ⟨.DCP, .indexedIndirect, 2, 8, 0, .absent⟩
  | 4 => ⟨.CPY, .zeroPage, 2, 3, 0, .documented⟩
  | 5 => ⟨.CMP, .zeroPage, 2, 3, 0, .documented⟩
  | 6 => ⟨.DEC, .zeroPage, 2, 5, 0, .documented⟩
  | 7 => ⟨.DCP, .zeroPage, 2, 5, 0, .absent⟩
  | 8 => ⟨.INY, .implied, 1, 2, 0, .documented⟩
  | 9 => ⟨.CMP, .immediate, 2, 2, 0, .documented⟩
  | 10 => ⟨.DEX, .implied, 1, 2, 0, .documented⟩
  | 11 => ⟨.AXS, .immediate, 2, 2, 0, .absent⟩
  | 12 => ⟨.CPY, .absolute, 3, 4, 0, .documented⟩
  | 13 => ⟨.CMP, .absolute, 3, 4, 0, .documented⟩
  | 14 => ⟨.DEC, .absolute, 3, 6, 0, .documented⟩
  | _ => ⟨.DCP, .absolute, 3, 6, 0, .absent⟩

/-- Slots 0xDx of R76, by low nibble. -/
def optableRowD (low : Nat) : Entry :=
  match low with
  | 0 => ⟨.BNE, .relative, 2, 2, 0, .documented⟩
  | 1 => ⟨.CMP, .indirectIndexed, 2, 5, 1, .documented⟩
  | 2 => ⟨.KIL, .implied, 1, 2, 0, .absent⟩
  | 3 => ⟨.DCP, .indirectIndexed, 2, 8, 0, .absent⟩
  | 4 => ⟨.NOP, .zeroPageX, 2, 4, 0, .aliased⟩
  | 5 => ⟨.CMP, .zeroPageX, 2, 4, 0, .documented⟩
  | 6 => ⟨.DEC, .zeroPageX, 2, 6, 0, .documented⟩
  | 7 => ⟨.DCP, .zeroPageX, 2, 6, 0, .absent⟩
  | 8 => ⟨.CLD, .implied, 1, 2, 0, .documented⟩
  | 9 => ⟨.CMP, .absoluteY, 3, 4, 1, .documented⟩
  | 10 => ⟨.NOP, .implied, 1, 2, 0, .aliased⟩
  | 11 => ⟨.DCP, .absoluteY, 3, 7, 0, .absent⟩
  | 12 => ⟨.NOP, .absoluteX, 3, 4, 1, .aliased⟩
  | 13 => ⟨.CMP, .absoluteX, 3, 4, 1, .documented⟩
  | 14 => ⟨.DEC, .absoluteX, 3, 7, 0, .documented⟩
  | _ => ⟨.DCP, .absoluteX, 3, 7, 0, .absent⟩

/-- Slots 0xEx of R76, by low nibble. -/
def optableRowE (low : Nat) : Entry :=
  match low with
  | 0 => ⟨.CPX, .immediate, 2, 2, 0, .documented⟩
  | 1 => ⟨.SBC, .indexedIndirect, 2, 6, 0, .documented⟩
  | 2 => ⟨.NOP, .immediate, 2, 2, 0, .aliased⟩
  | 3 => ⟨.ISC, .indexedIndirect, 2, 8, 0, .absent⟩
  | 4 => ⟨.CPX, .zeroPage, 2, 3, 0, .documented⟩
  | 5 => ⟨.SBC, .zeroPage, 2, 3, 0, .documented⟩
  | 6 => ⟨.INC, .zeroPage, 2, 5, 0, .documented⟩
  | 7 => ⟨.ISC, .zeroPage, 2, 5, 0, .absent⟩
  | 8 => ⟨.INX, .implied, 1, 2, 0, .documented⟩
  | 9 => ⟨.SBC, .immediate, 2, 2, 0, .documented⟩
  | 10 => ⟨.NOP, .implied, 1, 2, 0, .documented⟩
  | 11 => ⟨.SBC, .immediate, 2, 2, 0, .aliased⟩
  | 12 => ⟨.CPX, .absolute, 3, 4, 0, .documented⟩
  | 13 => ⟨.SBC, .absolute, 3, 4, 0, .documented⟩
  | 14 => ⟨.INC, .absolute, 3, 6, 0, .documented⟩
  | _ => ⟨.ISC, .absolute, 3, 6, 0, .absent⟩

/-- Slots 0xFx of R76, by low nibble. -/
def optableRowF (low : Nat) : Entry :=
  match low with
  | 0 => ⟨.BEQ, .relative, 2, 2, 0, .documented⟩
  | 1 => ⟨.SBC, .indirectIndexed, 2, 5, 1, .documented⟩
  | 2 => ⟨.KIL, .implied, 1, 2, 0, .absent⟩
  | 3 => ⟨.ISC, .indirectIndexed, 2, 8, 0, .absent⟩
  | 4 => ⟨.NOP, .zeroPageX, 2, 4, 0, .aliased⟩
  | 5 => ⟨.SBC, .zeroPageX, 2, 4, 0, .documented⟩
  | 6 => ⟨.INC, .zeroPageX, 2, 6, 0, .documented⟩
  | 7 => ⟨.ISC, .zeroPageX, 2, 6, 0, .absent⟩
  | 8 => ⟨.SED, .implied, 1, 2, 0, .documented⟩
  | 9 => ⟨.SBC, .absoluteY, 3, 4, 1, .documented⟩
  | 10 => ⟨.NOP, .implied, 1, 2, 0, .aliased⟩
  | 11 => ⟨.ISC, .absoluteY, 3, 7, 0, .absent⟩
  | 12 => ⟨.NOP, .absoluteX, 3, 4, 1, .aliased⟩
  | 13 => ⟨.SBC, .absoluteX, 3, 4, 1, .documented⟩
  | 14 => ⟨.INC, .absoluteX, 3, 7, 0, .documented⟩
  | _ => ⟨.ISC, .absoluteX, 3, 7, 0, .absent⟩

/-- `OPTABLE[op]` (R42, R76). -/
def optable (op : Byte) : Entry :=
  let low := op.toNat % 16
  match op.toNat / 16 with
  | 0 => optableRow0 low
  | 1 => optableRow1 low
  | 2 => optableRow2 low
  | 3 => optableRow3 low
  | 4 => optableRow4 low
  | 5 => optableRow5 low
  | 6 => optableRow6 low
  | 7 => optableRow7 low
  | 8 => optableRow8 low
  | 9 => optableRow9 low
  | 10 => optableRowA low
  | 11 => optableRowB low
  | 12 => optableRowC low
  | 13 => optableRowD low
  | 14 => optableRowE low
  | _ => optableRowF low

/-- Slots 0x0x of R74, by low nibble, with operand bytes `b1` and `b2` (R71). -/
def decodeRow0 (low : Nat) (b1 b2 : Byte) : Instr :=
  match low with
  | 0 => .brk
  | 1 => .oraIzx b1
  | 2 => .kil02
  | 3 => .sloIzx b1
  | 4 => .nopZp04 b1
  | 5 => .oraZp b1
  | 6 => .aslZp b1
  | 7 => .sloZp b1
  | 8 => .php
  | 9 => .oraImm b1
  | 10 => .aslAcc
  | 11 => .ancImm0B b1
  | 12 => .nopAbs (mkWord b2 b1)
  | 13 => .oraAbs (mkWord b2 b1)
  | 14 => .aslAbs (mkWord b2 b1)
  | _ => .sloAbs (mkWord b2 b1)

/-- Slots 0x1x of R74, by low nibble, with operand bytes `b1` and `b2` (R71). -/
def decodeRow1 (low : Nat) (b1 b2 : Byte) : Instr :=
  match low with
  | 0 => .bpl b1
  | 1 => .oraIzy b1
  | 2 => .kil12
  | 3 => .sloIzy b1
  | 4 => .nopZpx14 b1
  | 5 => .oraZpx b1
  | 6 => .aslZpx b1
  | 7 => .sloZpx b1
  | 8 => .clc
  | 9 => .oraAby (mkWord b2 b1)
  | 10 => .nop1A
  | 11 => .sloAby (mkWord b2 b1)
  | 12 => .nopAbx1C (mkWord b2 b1)
  | 13 => .oraAbx (mkWord b2 b1)
  | 14 => .aslAbx (mkWord b2 b1)
  | _ => .sloAbx (mkWord b2 b1)

/-- Slots 0x2x of R74, by low nibble, with operand bytes `b1` and `b2` (R71). -/
def decodeRow2 (low : Nat) (b1 b2 : Byte) : Instr :=
  match low with
  | 0 => .jsr (mkWord b2 b1)
  | 1 => .andIzx b1
  | 2 => .kil22
  | 3 => .rlaIzx b1
  | 4 => .bitZp b1
  | 5 => .andZp b1
  | 6 => .rolZp b1
  | 7 => .rlaZp b1
  | 8 => .plp
  | 9 => .andImm b1
  | 10 => .rolAcc
  | 11 => .ancImm2B b1
  | 12 => .bitAbs (mkWord b2 b1)
  | 13 => .andAbs (mkWord b2 b1)
  | 14 => .rolAbs (mkWord b2 b1)
  | _ => .rlaAbs (mkWord b2 b1)

/-- Slots 0x3x of R74, by low nibble, with operand bytes `b1` and `b2` (R71). -/
def decodeRow3 (low : Nat) (b1 b2 : Byte) : Instr :=
  match low with
  | 0 => .bmi b1
  | 1 => .andIzy b1
  | 2 => .kil32
  | 3 => .rlaIzy b1
  | 4 => .nopZpx34 b1
  | 5 => .andZpx b1
  | 6 => .rolZpx b1
  | 7 => .rlaZpx b1
  | 8 => .sec
  | 9 => .andAby (mkWord b2 b1)
  | 10 => .nop3A
  | 11 => .rlaAby (mkWord b2 b1)
  | 12 => .nopAbx3C (mkWord b2 b1)
  | 13 => .andAbx (mkWord b2 b1)
  | 14 => .rolAbx (mkWord b2 b1)
  | _ => .rlaAbx (mkWord b2 b1)

/-- Slots 0x4x of R74, by low nibble, with operand bytes `b1` and `b2` (R71). -/
def decodeRow4 (low : Nat) (b1 b2 : Byte) : Instr :=
  match low with
  | 0 => .rti
  | 1 => .eorIzx b1
  | 2 => .kil42
  | 3 => .sreIzx b1
  | 4 => .nopZp44 b1
  | 5 => .eorZp b1
  | 6 => .lsrZp b1
  | 7 => .sreZp b1
  | 8 => .pha
  | 9 => .eorImm b1
  | 10 => .lsrAcc
  | 11 => .alr b1
  | 12 => .jmpAbs (mkWord b2 b1)
  | 13 => .eorAbs (mkWord b2 b1)
  | 14 => .lsrAbs (mkWord b2 b1)
  | _ => .sreAbs (mkWord b2 b1)

/-- Slots 0x5x of R74, by low nibble, with operand bytes `b1` and `b2` (R71). -/
def decodeRow5 (low : Nat) (b1 b2 : Byte) : Instr :=
  match low with
  | 0 => .bvc b1
  | 1 => .eorIzy b1
  | 2 => .kil52
  | 3 => .sreIzy b1
  | 4 => .nopZpx54 b1
  | 5 => .eorZpx b1
  | 6 => .lsrZpx b1
  | 7 => .sreZpx b1
  | 8 => .cli
  | 9 => .eorAby (mkWord b2 b1)
  | 10 => .nop5A
  | 11 => .sreAby (mkWord b2 b1)
  | 12 => .nopAbx5C (mkWord b2 b1)
  | 13 => .eorAbx (mkWord b2 b1)
  | 14 => .lsrAbx (mkWord b2 b1)
  | _ => .sreAbx (mkWord b2 b1)

/-- Slots 0x6x of R74, by low nibble, with operand bytes `b1` and `b2` (R71). -/
def decodeRow6 (low : Nat) (b1 b2 : Byte) : Instr :=
  match low with
  | 0 => .rts
  | 1 => .adcIzx b1
  | 2 => .kil62
  | 3 => .rraIzx b1
  | 4 => .nopZp64 b1
  | 5 => .adcZp b1
  | 6 => .rorZp b1
  | 7 => .rraZp b1
  | 8 => .pla
  | 9 => .adcImm b1
  | 10 => .rorAcc
  | 11 => .arr b1
  | 12 => .jmpInd (mkWord b2 b1)
  | 13 => .adcAbs (mkWord b2 b1)
  | 14 => .rorAbs (mkWord b2 b1)
  | _ => .rraAbs (mkWord b2 b1)

/-- Slots 0x7x of R74, by low nibble, with operand bytes `b1` and `b2` (R71). -/
def decodeRow7 (low : Nat) (b1 b2 : Byte) : Instr :=
  match low with
  | 0 => .bvs b1
  | 1 => .adcIzy b1
  | 2 => .kil72
  | 3 => .rraIzy b1
  | 4 => .nopZpx74 b1
  | 5 => .adcZpx b1
  | 6 => .rorZpx b1
  | 7 => .rraZpx b1
  | 8 => .sei
  | 9 => .adcAby (mkWord b2 b1)
  | 10 => .nop7A
  | 11 => .rraAby (mkWord b2 b1)
  | 12 => .nopAbx7C (mkWord b2 b1)
  | 13 => .adcAbx (mkWord b2 b1)
  | 14 => .rorAbx (mkWord b2 b1)
  | _ => .rraAbx (mkWord b2 b1)

/-- Slots 0x8x of R74, by low nibble, with operand bytes `b1` and `b2` (R71). -/
def decodeRow8 (low : Nat) (b1 b2 : Byte) : Instr :=
  match low with
  | 0 => .nopImm80 b1
  | 1 => .staIzx b1
  | 2 => .nopImm82 b1
  | 3 => .saxIzx b1
  | 4 => .styZp b1
  | 5 => .staZp b1
  | 6 => .stxZp b1
  | 7 => .saxZp b1
  | 8 => .dey
  | 9 => .nopImm89 b1
  | 10 => .txa
  | 11 => .xaa b1
  | 12 => .styAbs (mkWord b2 b1)
  | 13 => .staAbs (mkWord b2 b1)
  | 14 => .stxAbs (mkWord b2 b1)
  | _ => .saxAbs (mkWord b2 b1)

/-- Slots 0x9x of R74, by low nibble, with operand bytes `b1` and `b2` (R71). -/
def decodeRow9 (low : Nat) (b1 b2 : Byte) : Instr :=
  match low with
  | 0 => .bcc b1
  | 1 => .staIzy b1
  | 2 => .kil92
  | 3 => .ahxIzy b1
  | 4 => .styZpx b1
  | 5 => .staZpx b1
  | 6 => .stxZpy b1
  | 7 => .saxZpy b1
  | 8 => .tya
  | 9 => .staAby (mkWord b2 b1)
  | 10 => .txs
  | 11 => .tas (mkWord b2 b1)
  | 12 => .shy (mkWord b2 b1)
  | 13 => .staAbx (mkWord b2 b1)
  | 14 => .shx (mkWord b2 b1)
  | _ => .ahxAby (mkWord b2 b1)

/-- Slots 0xAx of R74, by low nibble, with operand bytes `b1` and `b2` (R71). -/
def decodeRowA (low : Nat) (b1 b2 : Byte) : Instr :=
  match low with
  | 0 => .ldyImm b1
  | 1 => .ldaIzx b1
  | 2 => .ldxImm b1
  | 3 => .laxIzx b1
  | 4 => .ldyZp b1
  | 5 => .ldaZp b1
  | 6 => .ldxZp b1
  | 7 => .laxZp b1
  | 8 => .tay
  | 9 => .ldaImm b1
  | 10 => .tax
  | 11 => .laxImm b1
  | 12 => .ldyAbs (mkWord b2 b1)
  | 13 => .ldaAbs (mkWord b2 b1)
  | 14 => .ldxAbs (mkWord b2 b1)
  | _ => .laxAbs (mkWord b2 b1)

/-- Slots 0xBx of R74, by low nibble, with operand bytes `b1` and `b2` (R71). -/
def decodeRowB (low : Nat) (b1 b2 : Byte) : Instr :=
  match low with
  | 0 => .bcs b1
  | 1 => .ldaIzy b1
  | 2 => .kilB2
  | 3 => .laxIzy b1
  | 4 => .ldyZpx b1
  | 5 => .ldaZpx b1
  | 6 => .ldxZpy b1
  | 7 => .laxZpy b1
  | 8 => .clv
  | 9 => .ldaAby (mkWord b2 b1)
  | 10 => .tsx
  | 11 => .las (mkWord b2 b1)
  | 12 => .ldyAbx (mkWord b2 b1)
  | 13 => .ldaAbx (mkWord b2 b1)
  | 14 => .ldxAby (mkWord b2 b1)
  | _ => .laxAby (mkWord b2 b1)

/-- Slots 0xCx of R74, by low nibble, with operand bytes `b1` and `b2` (R71). -/
def decodeRowC (low : Nat) (b1 b2 : Byte) : Instr :=
  match low with
  | 0 => .cpyImm b1
  | 1 => .cmpIzx b1
  | 2 => .nopImmC2 b1
  | 3 => .dcpIzx b1
  | 4 => .cpyZp b1
  | 5 => .cmpZp b1
  | 6 => .decZp b1
  | 7 => .dcpZp b1
  | 8 => .iny
  | 9 => .cmpImm b1
  | 10 => .dex
  | 11 => .axs b1
  | 12 => .cpyAbs (mkWord b2 b1)
  | 13 => .cmpAbs (mkWord b2 b1)
  | 14 => .decAbs (mkWord b2 b1)
  | _ => .dcpAbs (mkWord b2 b1)

/-- Slots 0xDx of R74, by low nibble, with operand bytes `b1` and `b2` (R71). -/
def decodeRowD (low : Nat) (b1 b2 : Byte) : Instr :=
  match low with
  | 0 => .bne b1
  | 1 => .cmpIzy b1
  | 2 => .kilD2
  | 3 => .dcpIzy b1
  | 4 => .nopZpxD4 b1
  | 5 => .cmpZpx b1
  | 6 => .decZpx b1
  | 7 => .dcpZpx b1
  | 8 => .cld
  | 9 => .cmpAby (mkWord b2 b1)
  | 10 => .nopDA
  | 11 => .dcpAby (mkWord b2 b1)
  | 12 => .nopAbxDC (mkWord b2 b1)
  | 13 => .cmpAbx (mkWord b2 b1)
  | 14 => .decAbx (mkWord b2 b1)
  | _ => .dcpAbx (mkWord b2 b1)

/-- Slots 0xEx of R74, by low nibble, with operand bytes `b1` and `b2` (R71). -/
def decodeRowE (low : Nat) (b1 b2 : Byte) : Instr :=
  match low with
  | 0 => .cpxImm b1
  | 1 => .sbcIzx b1
  | 2 => .nopImmE2 b1
  | 3 => .iscIzx b1
  | 4 => .cpxZp b1
  | 5 => .sbcZp b1
  | 6 => .incZp b1
  | 7 => .iscZp b1
  | 8 => .inx
  | 9 => .sbcImm b1
  | 10 => .nop
  | 11 => .sbcImmEB b1
  | 12 => .cpxAbs (mkWord b2 b1)
  | 13 => .sbcAbs (mkWord b2 b1)
  | 14 => .incAbs (mkWord b2 b1)
  | _ => .iscAbs (mkWord b2 b1)

/-- Slots 0xFx of R74, by low nibble, with operand bytes `b1` and `b2` (R71). -/
def decodeRowF (low : Nat) (b1 b2 : Byte) : Instr :=
  match low with
  | 0 => .beq b1
  | 1 => .sbcIzy b1
  | 2 => .kilF2
  | 3 => .iscIzy b1
  | 4 => .nopZpxF4 b1
  | 5 => .sbcZpx b1
  | 6 => .incZpx b1
  | 7 => .iscZpx b1
  | 8 => .sed
  | 9 => .sbcAby (mkWord b2 b1)
  | 10 => .nopFA
  | 11 => .iscAby (mkWord b2 b1)
  | 12 => .nopAbxFC (mkWord b2 b1)
  | 13 => .sbcAbx (mkWord b2 b1)
  | 14 => .incAbx (mkWord b2 b1)
  | _ => .iscAbx (mkWord b2 b1)

/-- The instruction with opcode byte `op`; `b1` and `b2` are looked at only where the mode has them (R71, R73). -/
def decodeOp (op b1 b2 : Byte) : Instr :=
  let low := op.toNat % 16
  match op.toNat / 16 with
  | 0 => decodeRow0 low b1 b2
  | 1 => decodeRow1 low b1 b2
  | 2 => decodeRow2 low b1 b2
  | 3 => decodeRow3 low b1 b2
  | 4 => decodeRow4 low b1 b2
  | 5 => decodeRow5 low b1 b2
  | 6 => decodeRow6 low b1 b2
  | 7 => decodeRow7 low b1 b2
  | 8 => decodeRow8 low b1 b2
  | 9 => decodeRow9 low b1 b2
  | 10 => decodeRowA low b1 b2
  | 11 => decodeRowB low b1 b2
  | 12 => decodeRowC low b1 b2
  | 13 => decodeRowD low b1 b2
  | 14 => decodeRowE low b1 b2
  | _ => decodeRowF low b1 b2

/-- Why a byte string is no instruction. -/
inductive DecodeError where
  | noBytes                     -- the empty string
  | truncated (opcode : Byte)   -- fewer operand bytes than `OPTABLE[opcode].length` asks for
  deriving DecidableEq, Repr

/-- The instruction at the head of a byte string and the bytes after it (R71, R72). -/
def decode : List Byte → Except DecodeError (Instr × List Byte)
  | [] => .error .noBytes
  | op :: rest =>
    let operandBytes := (optable op).length - 1
    if rest.length < operandBytes then .error (.truncated op)
    else .ok (decodeOp op (rest.getD 0 0) (rest.getD 1 0), rest.drop operandBytes)

/-- The opcode byte of a row (R74). -/
def Instr.opcode : Instr → Byte
  | .brk => 0x00
  | .oraIzx _ => 0x01
  | .kil02 => 0x02
  | .sloIzx _ => 0x03
  | .nopZp04 _ => 0x04
  | .oraZp _ => 0x05
  | .aslZp _ => 0x06
  | .sloZp _ => 0x07
  | .php => 0x08
  | .oraImm _ => 0x09
  | .aslAcc => 0x0A
  | .ancImm0B _ => 0x0B
  | .nopAbs _ => 0x0C
  | .oraAbs _ => 0x0D
  | .aslAbs _ => 0x0E
  | .sloAbs _ => 0x0F
  | .bpl _ => 0x10
  | .oraIzy _ => 0x11
  | .kil12 => 0x12
  | .sloIzy _ => 0x13
  | .nopZpx14 _ => 0x14
  | .oraZpx _ => 0x15
  | .aslZpx _ => 0x16
  | .sloZpx _ => 0x17
  | .clc => 0x18
  | .oraAby _ => 0x19
  | .nop1A => 0x1A
  | .sloAby _ => 0x1B
  | .nopAbx1C _ => 0x1C
  | .oraAbx _ => 0x1D
  | .aslAbx _ => 0x1E
  | .sloAbx _ => 0x1F
  | .jsr _ => 0x20
  | .andIzx _ => 0x21
  | .kil22 => 0x22
  | .rlaIzx _ => 0x23
  | .bitZp _ => 0x24
  | .andZp _ => 0x25
  | .rolZp _ => 0x26
  | .rlaZp _ => 0x27
  | .plp => 0x28
  | .andImm _ => 0x29
  | .rolAcc => 0x2A
  | .ancImm2B _ => 0x2B
  | .bitAbs _ => 0x2C
  | .andAbs _ => 0x2D
  | .rolAbs _ => 0x2E
  | .rlaAbs _ => 0x2F
  | .bmi _ => 0x30
  | .andIzy _ => 0x31
  | .kil32 => 0x32
  | .rlaIzy _ => 0x33
  | .nopZpx34 _ => 0x34
  | .andZpx _ => 0x35
  | .rolZpx _ => 0x36
  | .rlaZpx _ => 0x37
  | .sec => 0x38
  | .andAby _ => 0x39
  | .nop3A => 0x3A
  | .rlaAby _ => 0x3B
  | .nopAbx3C _ => 0x3C
  | .andAbx _ => 0x3D
  | .rolAbx _ => 0x3E
  | .rlaAbx _ => 0x3F
  | .rti => 0x40
  | .eorIzx _ => 0x41
  | .kil42 => 0x42
  | .sreIzx _ => 0x43
  | .nopZp44 _ => 0x44
  | .eorZp _ => 0x45
  | .lsrZp _ => 0x46
  | .sreZp _ => 0x47
  | .pha => 0x48
  | .eorImm _ => 0x49
  | .lsrAcc => 0x4A
  | .alr _ => 0x4B
  | .jmpAbs _ => 0x4C
  | .eorAbs _ => 0x4D
  | .lsrAbs _ => 0x4E
  | .sreAbs _ => 0x4F
  | .bvc _ => 0x50
  | .eorIzy _ => 0x51
  | .kil52 => 0x52
  | .sreIzy _ => 0x53
  | .nopZpx54 _ => 0x54
  | .eorZpx _ => 0x55
  | .lsrZpx _ => 0x56
  | .sreZpx _ => 0x57
  | .cli => 0x58
  | .eorAby _ => 0x59
  | .nop5A => 0x5A
  | .sreAby _ => 0x5B
  | .nopAbx5C _ => 0x5C
  | .eorAbx _ => 0x5D
  | .lsrAbx _ => 0x5E
  | .sreAbx _ => 0x5F
  | .rts => 0x60
  | .adcIzx _ => 0x61
  | .kil62 => 0x62
  | .rraIzx _ => 0x63
  | .nopZp64 _ => 0x64
  | .adcZp _ => 0x65
  | .rorZp _ => 0x66
  | .rraZp _ => 0x67
  | .pla => 0x68
  | .adcImm _ => 0x69
  | .rorAcc => 0x6A
  | .arr _ => 0x6B
  | .jmpInd _ => 0x6C
  | .adcAbs _ => 0x6D
  | .rorAbs _ => 0x6E
  | .rraAbs _ => 0x6F
  | .bvs _ => 0x70
  | .adcIzy _ => 0x71
  | .kil72 => 0x72
  | .rraIzy _ => 0x73
  | .nopZpx74 _ => 0x74
  | .adcZpx _ => 0x75
  | .rorZpx _ => 0x76
  | .rraZpx _ => 0x77
  | .sei => 0x78
  | .adcAby _ => 0x79
  | .nop7A => 0x7A
  | .rraAby _ => 0x7B
  | .nopAbx7C _ => 0x7C
  | .adcAbx _ => 0x7D
  | .rorAbx _ => 0x7E
  | .rraAbx _ => 0x7F
  | .nopImm80 _ => 0x80
  | .staIzx _ => 0x81
  | .nopImm82 _ => 0x82
  | .saxIzx _ => 0x83
  | .styZp _ => 0x84
  | .staZp _ => 0x85
  | .stxZp _ => 0x86
  | .saxZp _ => 0x87
  | .dey => 0x88
  | .nopImm89 _ => 0x89
  | .txa => 0x8A
  | .xaa _ => 0x8B
  | .styAbs _ => 0x8C
  | .staAbs _ => 0x8D
  | .stxAbs _ => 0x8E
  | .saxAbs _ => 0x8F
  | .bcc _ => 0x90
  | .staIzy _ => 0x91
  | .kil92 => 0x92
  | .ahxIzy _ => 0x93
  | .styZpx _ => 0x94
  | .staZpx _ => 0x95
  | .stxZpy _ => 0x96
  | .saxZpy _ => 0x97
  | .tya => 0x98
  | .staAby _ => 0x99
  | .txs => 0x9A
  | .tas _ => 0x9B
  | .shy _ => 0x9C
  | .staAbx _ => 0x9D
  | .shx _ => 0x9E
  | .ahxAby _ => 0x9F
  | .ldyImm _ => 0xA0
  | .ldaIzx _ => 0xA1
  | .ldxImm _ => 0xA2
  | .laxIzx _ => 0xA3
  | .ldyZp _ => 0xA4
  | .ldaZp _ => 0xA5
  | .ldxZp _ => 0xA6
  | .laxZp _ => 0xA7
  | .tay => 0xA8
  | .ldaImm _ => 0xA9
  | .tax => 0xAA
  | .laxImm _ => 0xAB
  | .ldyAbs _ => 0xAC
  | .ldaAbs _ => 0xAD
  | .ldxAbs _ => 0xAE
  | .laxAbs _ => 0xAF
  | .bcs _ => 0xB0
  | .ldaIzy _ => 0xB1
  | .kilB2 => 0xB2
  | .laxIzy _ => 0xB3
  | .ldyZpx _ => 0xB4
  | .ldaZpx _ => 0xB5
  | .ldxZpy _ => 0xB6
  | .laxZpy _ => 0xB7
  | .clv => 0xB8
  | .ldaAby _ => 0xB9
  | .tsx => 0xBA
  | .las _ => 0xBB
  | .ldyAbx _ => 0xBC
  | .ldaAbx _ => 0xBD
  | .ldxAby _ => 0xBE
  | .laxAby _ => 0xBF
  | .cpyImm _ => 0xC0
  | .cmpIzx _ => 0xC1
  | .nopImmC2 _ => 0xC2
  | .dcpIzx _ => 0xC3
  | .cpyZp _ => 0xC4
  | .cmpZp _ => 0xC5
  | .decZp _ => 0xC6
  | .dcpZp _ => 0xC7
  | .iny => 0xC8
  | .cmpImm _ => 0xC9
  | .dex => 0xCA
  | .axs _ => 0xCB
  | .cpyAbs _ => 0xCC
  | .cmpAbs _ => 0xCD
  | .decAbs _ => 0xCE
  | .dcpAbs _ => 0xCF
  | .bne _ => 0xD0
  | .cmpIzy _ => 0xD1
  | .kilD2 => 0xD2
  | .dcpIzy _ => 0xD3
  | .nopZpxD4 _ => 0xD4
  | .cmpZpx _ => 0xD5
  | .decZpx _ => 0xD6
  | .dcpZpx _ => 0xD7
  | .cld => 0xD8
  | .cmpAby _ => 0xD9
  | .nopDA => 0xDA
  | .dcpAby _ => 0xDB
  | .nopAbxDC _ => 0xDC
  | .cmpAbx _ => 0xDD
  | .decAbx _ => 0xDE
  | .dcpAbx _ => 0xDF
  | .cpxImm _ => 0xE0
  | .sbcIzx _ => 0xE1
  | .nopImmE2 _ => 0xE2
  | .iscIzx _ => 0xE3
  | .cpxZp _ => 0xE4
  | .sbcZp _ => 0xE5
  | .incZp _ => 0xE6
  | .iscZp _ => 0xE7
  | .inx => 0xE8
  | .sbcImm _ => 0xE9
  | .nop => 0xEA
  | .sbcImmEB _ => 0xEB
  | .cpxAbs _ => 0xEC
  | .sbcAbs _ => 0xED
  | .incAbs _ => 0xEE
  | .iscAbs _ => 0xEF
  | .beq _ => 0xF0
  | .sbcIzy _ => 0xF1
  | .kilF2 => 0xF2
  | .iscIzy _ => 0xF3
  | .nopZpxF4 _ => 0xF4
  | .sbcZpx _ => 0xF5
  | .incZpx _ => 0xF6
  | .iscZpx _ => 0xF7
  | .sed => 0xF8
  | .sbcAby _ => 0xF9
  | .nopFA => 0xFA
  | .iscAby _ => 0xFB
  | .nopAbxFC _ => 0xFC
  | .sbcAbx _ => 0xFD
  | .incAbx _ => 0xFE
  | .iscAbx _ => 0xFF

/-- The operand bytes as they stand after the opcode, low byte first (R71, R73). -/
def Operand.bytes : Operand → List Byte
  | .implied => []
  | .accumulator => []
  | .immediate v => [v]
  | .zeroPage a => [a]
  | .zeroPageX a => [a]
  | .zeroPageY a => [a]
  | .relative off => [off]
  | .indexedIndirect ptr => [ptr]
  | .indirectIndexed ptr => [ptr]
  | .absolute w => [loByte w, hiByte w]
  | .absoluteX w => [loByte w, hiByte w]
  | .absoluteY w => [loByte w, hiByte w]
  | .indirect w => [loByte w, hiByte w]

/-- The bytes of an instruction, in address order (R71). -/
def encode (i : Instr) : List Byte := i.opcode :: i.operand.bytes

/-- The bytes the decoder is given for an instruction word of `nbits` bits: byte k is bits 8k+7 to 8k of `w`, and every
bit from `nbits` up is 0. Three bytes, the longest instruction. -/
def tableWordBytes (nbits w : Nat) : List Byte :=
  let v := w % 2 ^ nbits
  [BitVec.ofNat 8 v, BitVec.ofNat 8 (v / 256), BitVec.ofNat 8 (v / 65536)]

/-- The instruction this decoder reads from an opcode-table word. -/
def decodeTableWord (nbits w : Nat) : Option Instr :=
  match decode (tableWordBytes nbits w) with
  | .ok (i, _) => some i
  | .error _ => none

end Sys2Proof
end

