-- ==== Sys2Proof/Machine/State.lean ====
section
/-! DEFINITION. The machine's state as plain data: everything spec/10_state.md gives the block, the states of the two
external collaborators that answer on its bus, and the model's parameters. INVENTORY.md lists every field. -/

namespace Sys2Proof.Machine

/-- A memory: (key, byte) pairs with strictly rising keys. An unlisted key has NO value here; what the machine reads
there is said where the memory is read (`State.ramByte`, `Mapper.read`), and is a free value. -/
abbrev Memory := List Host.Cell

/-- The requests the mailbox can hold (R36). -/
inductive Interrupt where
  | irq | nmi | reset
  deriving DecidableEq, Repr

/-- A record of the model-level `fault` list (R40). -/
inductive FaultRecord where
  /-- Appended by a step whose opcode has no handler (R219, R300); the run goes on. -/
  | illegalOpcode (opcode : Byte) (address : Addr)
  /-- Appended when the mapper adaptor is handed an address below 0x6000 (R222); the CPU is then stuck. -/
  | mapperViolation (address : Addr)
  deriving DecidableEq, Repr

/-- The MAPPER's state (R55), as plain data: the bytes it is known to return, and every write and bus reset it has
seen, newest first. A byte that is not known is a free function of those and the address (log entry 5). -/
structure Mapper where
  image : Memory
  events : List MapperEvent
  deriving DecidableEq, Repr

/-- The state of the block and of what answers on its bus. -/
structure State where
  /-- A, X, Y, SP, PC (R30 to R34). -/
  a : Byte
  x : Byte
  y : Byte
  sp : Byte
  pc : Addr
  /-- The seven status flags (R35): Carry, Zero, Interrupt-disable, Decimal, Break, Overflow, Negative. -/
  c : Bool
  z : Bool
  i : Bool
  d : Bool
  b : Bool
  v : Bool
  n : Bool
  /-- The interrupt mailbox, one slot (R36). -/
  mailbox : Option Interrupt
  /-- The stall counter (R37). -/
  stall : Nat
  /-- The cycle counter (R39). -/
  cycles : Nat
  /-- The model-level fault list, oldest first (R40). -/
  faults : List FaultRecord
  /-- The 2 KiB internal RAM, by physical index (R41). -/
  ram : Memory
  /-- The model's own: how many bus resets there were (R59, log entry 2). -/
  ramEpoch : Nat
  /-- MAPPER's state (R55). -/
  mapper : Mapper
  /-- PERIPH's state: every transfer and bus reset it has seen, newest first (R53, log entry 4). -/
  periph : List PeriphEvent
  /-- The parameters (R8); no step changes them. -/
  params : Params
  deriving DecidableEq, Repr

/-- Why the machine stops. -/
inductive Fault where
  /-- Raised by `step` in a state whose fault list holds a MapperViolation (R222, D40): the CPU is stuck. Safe: the spec
  gives no successor, and no run reaches such a state. -/
  | mapperViolation (address : Addr)
  deriving DecidableEq, Repr

/-- Why the model gives an instruction no meaning. -/
inductive Refusal where
  /-- Raised by an arm of `exec` whose instruction has no meaning yet; no arm of this model does. Safe: it stops. -/
  | notModelled (mnemonic : String)
  deriving DecidableEq, Repr

/-- The power-on values the spec leaves as draws (R44), but for RAM, which is left unlisted. -/
structure Draws where
  a : Byte
  x : Byte
  y : Byte
  sp : Byte
  pc : Addr
  c : Bool
  z : Bool
  i : Bool
  d : Bool
  v : Bool
  n : Bool
  deriving DecidableEq, Repr

/-- The block as constructed (R44, R240), for any draws and parameters, with a mapper of which nothing is known. -/
def State.powerOn (w : Draws) (params : Params) : State :=
  { a := w.a, x := w.x, y := w.y, sp := w.sp, pc := w.pc
    c := w.c, z := w.z, i := w.i, d := w.d, b := false, v := w.v, n := w.n
    mailbox := some .reset, stall := 0, cycles := 0, faults := []
    ram := [], ramEpoch := 0, mapper := { image := [], events := [] }, periph := [], params := params }

/-- The draws State.reset takes, those of program P1 of spec/95_test_vectors.md. DESIGN CHOICE, unsafe (log entry 1). -/
def Draws.chosen : Draws :=
  { a := 0, x := 0, y := 0, sp := 0xFD, pc := 0
    c := false, z := false, i := true, d := false, v := false, n := false }

/-- The machine right after reset (power-on, R240), with the parameter values of R8. -/
def State.reset : State := State.powerOn Draws.chosen {}

end Sys2Proof.Machine
end

