-- ==== Sys2Proof/Machine/Flags.lean ====
section
/-! DEFINITION. The status flags: the packed byte P (spec/10_state.md R38), the helpers setZN and compare
(spec/40_dispatch.md R96, R97), and the arithmetic of ADC and SBC with their flags (spec/43_arith_logic.md R127 to R130). -/

namespace Sys2Proof.Machine

/-- Flag `f` at bit `k` of a byte. -/
def flagBit (f : Bool) (k : Nat) : Byte := if f then 1#8 <<< k else 0#8

/-- `pack(brk)` (R38): N V 1 B D I Z C, with bit 4 forced to 1 when `brk`. -/
def State.pack (brk : Bool) (s : State) : Byte :=
  flagBit s.n 7 ||| flagBit s.v 6 ||| flagBit true 5 ||| flagBit (s.b || brk) 4 ||| flagBit s.d 3 ||| flagBit s.i 2
    ||| flagBit s.z 1 ||| flagBit s.c 0

/-- `unpack(p)` (R38): bits 5 and 4 are discarded and B is unchanged. -/
def State.unpack (p : Byte) (s : State) : State :=
  { s with n := p.getLsbD 7, v := p.getLsbD 6, d := p.getLsbD 3, i := p.getLsbD 2, z := p.getLsbD 1, c := p.getLsbD 0 }

def State.setC (f : Bool) (s : State) : State := { s with c := f }
def State.setI (f : Bool) (s : State) : State := { s with i := f }
def State.setD (f : Bool) (s : State) : State := { s with d := f }
def State.setV (f : Bool) (s : State) : State := { s with v := f }

/-- `setZN(v)` (R96). -/
def State.setZN (v : Byte) (s : State) : State := { s with n := v.getLsbD 7, z := v == 0 }

/-- `compare(r, m)` (R97). -/
def State.compare (r m : Byte) (s : State) : State := (s.setZN (r - m)).setC (decide (m.toNat ≤ r.toNat))

/-- Bit test (R137): Z from `m & A`, N and V from `m`. -/
def State.bitTest (m : Byte) (s : State) : State :=
  { s with z := (m &&& s.a) == 0, n := m.getLsbD 7, v := m.getLsbD 6 }

/-- The result of an addition or subtraction with result byte `r`, carry `c` and overflow `v`. -/
def arithResult (r : Byte) (c v : Bool) : ArithResult := { a := r, c := c, v := v, z := r == 0, n := r.getLsbD 7 }

/-- `~(A ^ m) & (A ^ r)` on bit 7 (R127, R129). -/
def addOverflow (a m r : Byte) : Bool := ((~~~(a ^^^ m) &&& (a ^^^ r)) &&& 0x80#8) != 0

/-- `(A ^ m) & (A ^ r)` on bit 7 (R128, R130). -/
def subOverflow (a m r : Byte) : Bool := (((a ^^^ m) &&& (a ^^^ r)) &&& 0x80#8) != 0

/-- Binary ADC (R127). -/
def adcBinary (a m : Byte) (c : Bool) : ArithResult :=
  let s := a.toNat + m.toNat + c.toNat
  let r := BitVec.ofNat 8 s
  arithResult r (decide (0xFF < s)) (addOverflow a m r)

/-- Binary SBC (R128). -/
def sbcBinary (a m : Byte) (c : Bool) : ArithResult :=
  let s := a.toNat + (m ^^^ 0xFF#8).toNat + c.toNat
  let r := BitVec.ofNat 8 s
  arithResult r (decide (0xFF < s)) (subOverflow a m r)

/-- `dec(v)` (R129). -/
def bcdDecode (v : Byte) : Nat := 10 * (v.toNat / 16) + v.toNat % 16

/-- `enc(n)` (R129). -/
def bcdEncode (n : Nat) : Byte := BitVec.ofNat 8 ((n / 10) * 16 + n % 10)

/-- Both digits are at most 9 (R129). -/
def bcdValid (v : Byte) : Bool := decide (v.toNat / 16 ≤ 9) && decide (v.toNat % 16 ≤ 9)

/-- `adc_decimal` (R129). -/
def adcDecimal (a m : Byte) (c : Bool) : ArithResult :=
  if bcdValid a && bcdValid m then
    let s := bcdDecode a + bcdDecode m + c.toNat
    let r := bcdEncode (s % 100)
    arithResult r (decide (99 < s)) (addOverflow a m r)
  else Config.bcdInvalid .adc a m c

/-- `sbc_decimal` (R130). -/
def sbcDecimal (a m : Byte) (c : Bool) : ArithResult :=
  if bcdValid a && bcdValid m then
    let d : Int := bcdDecode a - bcdDecode m - (1 - c.toNat : Int)
    let r := bcdEncode (d % 100).toNat
    arithResult r (decide (0 ≤ d)) (subOverflow a m r)
  else Config.bcdInvalid .sbc a m c

/-- The decimal branch is taken: `D == 1 and BCD_ENABLED` (R9, R127, R128). -/
def State.decimal (s : State) : Bool := s.d && s.params.bcdEnabled

/-- ADC of A and `m` in state `s` (R127, R129). -/
def State.adcResult (m : Byte) (s : State) : ArithResult :=
  if s.decimal then adcDecimal s.a m s.c else adcBinary s.a m s.c

/-- SBC of A and `m` in state `s` (R128, R130). -/
def State.sbcResult (m : Byte) (s : State) : ArithResult :=
  if s.decimal then sbcDecimal s.a m s.c else sbcBinary s.a m s.c

/-- Writes A, C, V, Z and N (R127 to R130). -/
def State.setArith (r : ArithResult) (s : State) : State := { s with a := r.a, c := r.c, v := r.v, z := r.z, n := r.n }

end Sys2Proof.Machine
end

