-- ==== Sys2Proof/Machine/Ops.lean ====
section
/-! DEFINITION. Memories, the bus arbiter (spec/20_memory.md R45 to R61), the stack (R62 to R66), taking an interrupt or
BRK and returning from one (spec/60_exceptions.md R205 to R208, R213; spec/46_control.md R163, R164), and the
IllegalOpcode and MapperViolation records (R219, R222). -/

namespace Sys2Proof.Machine

/-! ### Memories in canonical form -/

/-- The byte listed at `k`, if any. -/
def Memory.get : Memory → Nat → Option Byte
  | [], _ => none
  | (k', v) :: rest, k => if k' = k then some v else Memory.get rest k

/-- The memory with `v` at `k`, keys rising. -/
def Memory.set : Memory → Nat → Byte → Memory
  | [], k, v => [(k, v)]
  | (k', v') :: rest, k, v =>
    if k < k' then (k, v) :: (k', v') :: rest
    else if k = k' then (k, v) :: rest
    else (k', v') :: Memory.set rest k v

/-- Canonical form: keys strictly rising. An unlisted key has no value, so no entry can repeat one. -/
abbrev Memory.wf (m : Memory) : Prop := m.Pairwise (fun p q => p.1 < q.1)

/-- Every key lies in `[low, high)`. -/
abbrev Memory.within (low high : Nat) (m : Memory) : Prop := ∀ cell ∈ m, low ≤ cell.1 ∧ cell.1 < high

/-! ### Registers and counters -/

def State.setA (v : Byte) (s : State) : State := { s with a := v }
def State.setX (v : Byte) (s : State) : State := { s with x := v }
def State.setY (v : Byte) (s : State) : State := { s with y := v }
def State.setSp (v : Byte) (s : State) : State := { s with sp := v }
def State.setPc (w : Addr) (s : State) : State := { s with pc := w }
def State.setMailbox (m : Option Interrupt) (s : State) : State := { s with mailbox := m }

/-- Adds to the cycle counter (R39). -/
def State.addCycles (k : Nat) (s : State) : State := { s with cycles := s.cycles + k }

/-- Appends a record; no step ever clears the list (R40). -/
def State.recordFault (r : FaultRecord) (s : State) : State := { s with faults := s.faults ++ [r] }

/-! ### The bus arbiter -/

/-- The targets of R47. -/
inductive Region where
  | ram       -- `[0x0000, 0x2000)`, R48
  | video     -- `[0x2000, 0x4000)`, R50
  | audio     -- `[0x4000, 0x4018)`, R51
  | unmapped  -- `[0x4018, 0x6000)`, R52
  | mapper    -- `[0x6000, 0x10000)`, R55
  deriving DecidableEq, Repr

/-- The routing table (R47). -/
def route (a : Addr) : Region :=
  if a.toNat < 0x2000 then .ram
  else if a.toNat < 0x4000 then .video
  else if a.toNat < 0x4018 then .audio
  else if a.toNat < 0x6000 then .unmapped
  else .mapper

/-- `a` is in RAM or in the mapper window: reading there has no side effect (R54). -/
def isMemory (a : Addr) : Bool := route a == .ram || route a == .mapper

/-- The physical RAM index `a mod 0x0800` (R48). -/
def ramIndex (a : Addr) : Nat := a.toNat % 0x800

/-- `ram[index]` (R49): the latest byte written, else its draw (R44, R59, R68). -/
def State.ramByte (index : Nat) (s : State) : Byte := (s.ram.get index).getD (Config.ramDraw s.ramEpoch index)

/-- `MAPPER.read(state, a)` (R55): it does not change the mapper (D24). -/
def Mapper.read (m : Mapper) (a : Addr) : Byte := (m.image.get a.toNat).getD (Config.mapperRead m.events a)

/-- `MAPPER.write(state, a, v)` (R55), for the kind of mapper the parameter names (log entry 6). -/
def Mapper.write (kind : MapperWrites) (m : Mapper) (a : Addr) (v : Byte) : Mapper :=
  match kind with
  | .anyEffect => { image := [], events := .write a v :: m.events }
  | .ignored => m
  | .stored => { m with image := m.image.set a.toNat v }

/-- The mapper at a bus reset (R59), for the kind of mapper the parameter names (log entry 6). -/
def Mapper.busReset (kind : MapperWrites) (m : Mapper) : Mapper :=
  match kind with
  | .anyEffect => { image := [], events := .busReset :: m.events }
  | .ignored | .stored => m

/-- The mapper adaptor, read side (R17, R55, R222): from 0x6000 on the mapper's answer; below, no value, and the state
with the violation recorded. -/
def State.mapperPortRead (a : Addr) (s : State) : Except State Byte :=
  if a.toNat < 0x6000 then .error (s.recordFault (.mapperViolation a)) else .ok (s.mapper.read a)

/-- The mapper adaptor, write side (R17, R55, R222): from 0x6000 on the state with the mapper's new state; below, nothing
is written and the violation is recorded. -/
def State.mapperPortWrite (a : Addr) (v : Byte) (s : State) : Except State State :=
  if a.toNat < 0x6000 then .error (s.recordFault (.mapperViolation a))
  else .ok { s with mapper := s.mapper.write s.params.mapperWrites a v }

/-- The byte a transfer reading `a` returns now (R47 to R55). Where the mapper adaptor returns none, which R47 rules out
(R222), a free value stands in its place (log entry 11). -/
def State.peek (a : Addr) (s : State) : Byte :=
  match route a with
  | .ram => s.ramByte (ramIndex a)
  | .video | .audio | .unmapped => Config.periphRead s.periph a
  | .mapper =>
    match s.mapperPortRead a with
    | .ok v => v
    | .error _ => Config.mapperRead s.mapper.events a

/-- The effect of a transfer reading `a` (R54): PERIPH sees a read in its windows; RAM and mapper reads have none, but for
the record of a violation (R222). -/
def State.touch (a : Addr) (s : State) : State :=
  match route a with
  | .ram => s
  | .video | .audio | .unmapped => { s with periph := .read a :: s.periph }
  | .mapper =>
    match s.mapperPortRead a with
    | .ok _ => s
    | .error t => t

/-- Bus `readByte(a)` (R16, R47). -/
def State.readByte (a : Addr) (s : State) : Byte × State := (s.peek a, s.touch a)

/-- Bus `writeByte(a, v)` (R47, R49, R52, R53, R55, R58, R222). -/
def State.writeByte (a : Addr) (v : Byte) (s : State) : State :=
  match route a with
  | .ram => { s with ram := s.ram.set (ramIndex a) v }
  | .video | .audio | .unmapped => { s with periph := .write a v :: s.periph }
  | .mapper =>
    match s.mapperPortWrite a v with
    | .ok t | .error t => t

/-- Two byte reads, the low byte at `a` first, the high byte at `a'`. -/
def State.readPair (a a' : Addr) (s : State) : Addr × State :=
  let low := s.readByte a
  let high := low.2.readByte a'
  (mkWord high.1 low.1, high.2)

/-- Bus `readWord(a)` (R56). -/
def State.readWord (a : Addr) (s : State) : Addr × State := s.readPair a (a + 1)

/-- `(a & 0xFF00) | ((a + 1) & 0x00FF)` (R57): the successor inside the page. -/
def nextInPage (a : Addr) : Addr := (a &&& 0xFF00#16) ||| ((a + 1) &&& 0x00FF#16)

/-- Bus `readWordWrapped(a)`, the page-wrap bug (R57). -/
def State.readWordWrapped (a : Addr) (s : State) : Addr × State := s.readPair a (nextInPage a)

/-- Bus `writeWord(a, w)` (R58); no instruction uses it. -/
def State.writeWord (a w : Addr) (s : State) : State := (s.writeByte a (loByte w)).writeByte (a + 1) (hiByte w)

/-! ### The stack -/

/-- `0x0100 | SP` (R33, R62). -/
def stackAddr (sp : Byte) : Addr := mkWord 0x01 sp

/-- `push(v)` (R62): decrement, then write. -/
def State.push (v : Byte) (s : State) : State :=
  let s' := s.setSp (s.sp - 1)
  s'.writeByte (stackAddr s'.sp) v

/-- `pull()` (R63): read, then increment. -/
def State.pull (s : State) : Byte × State :=
  let r := s.readByte (stackAddr s.sp)
  (r.1, r.2.setSp (r.2.sp + 1))

/-- `push16(w)` (R64): the high byte, then the low byte. -/
def State.push16 (w : Addr) (s : State) : State := (s.push (hiByte w)).push (loByte w)

/-- `pull16()` (R65): the low byte, then the high byte. -/
def State.pull16 (s : State) : Addr × State :=
  let low := s.pull
  let high := low.2.pull
  (mkWord high.1 low.1, high.2)

/-! ### Taking an interrupt or BRK, and returning -/

/-- The vectors of R67. -/
def nmiVector : Addr := 0xFFFA
def resetVector : Addr := 0xFFFC
def irqVector : Addr := 0xFFFE

/-- `PC <- MemRead(vector, 2)`, read with readWord (R67). -/
def State.loadPc (vector : Addr) (s : State) : State :=
  let r := s.readWord vector
  r.2.setPc r.1

/-- The entry IRQ, NMI and BRK share (R164, R205, R206, R208): push the saved PC, push P with bit 4 as `brk` says, set I,
load PC from the vector. -/
def State.enterTrap (saved : Addr) (brk : Bool) (vector : Addr) (s : State) : State :=
  (((s.push16 saved).push (s.pack brk)).setI true).loadPc vector

/-- The return RTI makes (R163, R213): the flags from the pulled byte, then PC from the next two. -/
def State.returnFromTrap (s : State) : State :=
  let p := s.pull
  let w := (p.2.unpack p.1).pull16
  w.2.setPc w.1

/-- `raise IllegalOpcode(op, p)` (R219, R300): no vector, no stack activity; a record for the host. -/
def State.raiseIllegal (op : Byte) (p : Addr) (s : State) : State := s.recordFault (.illegalOpcode op p)

/-! ### The stuck CPU -/

/-- The address of the first recorded MapperViolation: the CPU is stuck (R222). -/
def State.stuckAt (s : State) : Option Addr :=
  s.faults.findSome? fun
    | .mapperViolation a => some a
    | .illegalOpcode _ _ => none

end Sys2Proof.Machine
end

