-- ==== Sys2Proof/Machine/Operands.lean ====
section
/-! DEFINITION. Address resolution for the 13 modes (spec/40_dispatch.md R83 to R92), the Execution Context and operand
helpers (R93, R98), and steps 4 to 8 of the step loop around a handler (R80, R94, R300). -/

namespace Sys2Proof.Machine

/-- `zext_16(b)` (R70, R73). -/
def zext16 (b : Byte) : Addr := b.setWidth 16

/-- `sext_16(b)` (R11): an offset of 0x80 or more counts as negative. -/
def sext16 (b : Byte) : Addr := if b.toNat < 0x80 then zext16 b else zext16 b + 0xFF00#16

/-- `pagesDiffer(a, b)` (R11). -/
def pagesDiffer (a b : Addr) : Bool := (a &&& 0xFF00#16) != (b &&& 0xFF00#16)

/-- What resolution gives (R83): the effective address, the page-cross flag, and the state after the pointer reads. -/
structure Resolved where
  ea : Addr
  crossed : Bool
  state : State

/-- An indexed 16-bit sum (R87, R91): modulo 0x10000, `crossed` when the high byte changed. -/
def indexed (base : Addr) (index : Byte) (s : State) : Resolved :=
  let ea := base + zext16 index
  { ea := ea, crossed := pagesDiffer (ea - zext16 index) ea, state := s }

/-- `resolve(mode, p)` (R83 to R92), the operand bytes being in `o` already. -/
def resolve (o : Operand) (p : Addr) (s : State) : Resolved :=
  match o with
  | .implied | .accumulator => { ea := 0, crossed := false, state := s }
  | .immediate _ => { ea := p + 1, crossed := false, state := s }
  | .zeroPage a => { ea := zext16 a, crossed := false, state := s }
  | .zeroPageX a => { ea := zext16 (a + s.x), crossed := false, state := s }
  | .zeroPageY a => { ea := zext16 (a + s.y), crossed := false, state := s }
  | .relative off => { ea := p + 2 + sext16 off, crossed := false, state := s }
  | .absolute w => { ea := w, crossed := false, state := s }
  | .absoluteX w => indexed w s.x s
  | .absoluteY w => indexed w s.y s
  | .indirect w =>
    let r := s.readWordWrapped w
    { ea := r.1, crossed := false, state := r.2 }
  | .indexedIndirect ptr =>
    let r := s.readWordWrapped (zext16 (ptr + s.x))
    { ea := r.1, crossed := false, state := r.2 }
  | .indirectIndexed ptr =>
    let r := s.readWordWrapped (zext16 ptr)
    indexed r.1 r.2.y r.2

/-- The Execution Context (R93), with the operand in place of its mode alone. -/
structure Ctx where
  ea : Addr
  pc : Addr
  operand : Operand

/-- `operand(ctx)` (R98). The immediate byte is the one the instruction carries; reading it is the transfer at
`ctx.ea = p + 1` (R85, log entry 3). -/
def readOperand (ctx : Ctx) (s : State) : Byte × State :=
  match ctx.operand with
  | .accumulator => (s.a, s)
  | .immediate v => (v, s.touch ctx.ea)
  | _ => s.readByte ctx.ea

/-- `writeback(ctx, v)` (R98). -/
def writeback (ctx : Ctx) (v : Byte) (s : State) : State :=
  match ctx.operand with
  | .accumulator => s.setA v
  | _ => s.writeByte ctx.ea v

/-- The cycles charged before the handler (R94). -/
def chargeOf (op : Byte) (crossed : Bool) : Nat :=
  (optable op).baseCycles + if crossed then (optable op).pageBonus else 0

/-- The context handed to the handler (R93): PC_after is `p + length`. -/
def contextOf (op : Byte) (o : Operand) (s : State) : Ctx :=
  { ea := (resolve o s.pc s).ea, pc := s.pc + BitVec.ofNat 16 (optable op).length, operand := o }

/-- The state handed to the handler: after steps 4 to 7 of R80 (resolve, advance PC, charge). -/
def readyState (op : Byte) (o : Operand) (s : State) : State :=
  let r := resolve o s.pc s
  (r.state.setPc (s.pc + BitVec.ofNat 16 (optable op).length)).addCycles (chargeOf op r.crossed)

/-- The `handler` column of R76 under the parameters: documented slots, and alias slots when UNDOC_ALIASES (R42, R77,
R320, R321). -/
def handlerPresent (op : Byte) (params : Params) : Bool :=
  match (optable op).slot with
  | .documented => true
  | .aliased => params.undocAliases
  | .absent => false

/-- Steps 4 to 8 of R80 for a slot with a handler, from a state whose PC is the opcode address. A handler adds its
extra cycles itself (R93). -/
def runHandler (op : Byte) (o : Operand) (handler : Ctx → State → State) (s : State) :
    Host.Outcome State Fault Refusal :=
  .next (handler (contextOf op o s) (readyState op o s))

/-- Steps 4 to 8 of R80 for a slot without a handler (R300). -/
def runIllegal (op : Byte) (o : Operand) (s : State) : Host.Outcome State Fault Refusal :=
  .next ((readyState op o s).raiseIllegal op s.pc)

/-- An undocumented slot with a documented mnemonic (R320, R321). -/
def runAliased (op : Byte) (o : Operand) (handler : Ctx → State → State) (s : State) :
    Host.Outcome State Fault Refusal :=
  bif s.params.undocAliases then runHandler op o handler s else runIllegal op o s

end Sys2Proof.Machine
end

