-- ==== Sys2Proof/Machine/Arith.lean ====
section
/-! DEFINITION. Arithmetic, logic, compare and bit test (spec/43_arith_logic.md R127 to R137).
A handler per mnemonic (R99), run with the context of R93, and a meaning per opcode-table row. -/

namespace Sys2Proof.Machine

/-- ADC (R127). -/
def handleAdc (ctx : Ctx) (s : State) : State :=
  let r := readOperand ctx s
  r.2.setArith (r.2.adcResult r.1)

/-- 0x61, ADC indexedIndirect (R127). -/
def execAdcIzx (ptr : Byte) (s : State) : Host.Outcome State Fault Refusal := runHandler 0x61 (.indexedIndirect ptr) handleAdc s

/-- 0x65, ADC zeroPage (R127). -/
def execAdcZp (a : Byte) (s : State) : Host.Outcome State Fault Refusal := runHandler 0x65 (.zeroPage a) handleAdc s

/-- 0x69, ADC immediate (R127). -/
def execAdcImm (v : Byte) (s : State) : Host.Outcome State Fault Refusal := runHandler 0x69 (.immediate v) handleAdc s

/-- 0x6D, ADC absolute (R127). -/
def execAdcAbs (w : Addr) (s : State) : Host.Outcome State Fault Refusal := runHandler 0x6D (.absolute w) handleAdc s

/-- 0x71, ADC indirectIndexed (R127). -/
def execAdcIzy (ptr : Byte) (s : State) : Host.Outcome State Fault Refusal := runHandler 0x71 (.indirectIndexed ptr) handleAdc s

/-- 0x75, ADC zeroPageX (R127). -/
def execAdcZpx (a : Byte) (s : State) : Host.Outcome State Fault Refusal := runHandler 0x75 (.zeroPageX a) handleAdc s

/-- 0x79, ADC absoluteY (R127). -/
def execAdcAby (w : Addr) (s : State) : Host.Outcome State Fault Refusal := runHandler 0x79 (.absoluteY w) handleAdc s

/-- 0x7D, ADC absoluteX (R127). -/
def execAdcAbx (w : Addr) (s : State) : Host.Outcome State Fault Refusal := runHandler 0x7D (.absoluteX w) handleAdc s

/-- SBC (R128). -/
def handleSbc (ctx : Ctx) (s : State) : State :=
  let r := readOperand ctx s
  r.2.setArith (r.2.sbcResult r.1)

/-- 0xE1, SBC indexedIndirect (R128). -/
def execSbcIzx (ptr : Byte) (s : State) : Host.Outcome State Fault Refusal := runHandler 0xE1 (.indexedIndirect ptr) handleSbc s

/-- 0xE5, SBC zeroPage (R128). -/
def execSbcZp (a : Byte) (s : State) : Host.Outcome State Fault Refusal := runHandler 0xE5 (.zeroPage a) handleSbc s

/-- 0xE9, SBC immediate (R128). -/
def execSbcImm (v : Byte) (s : State) : Host.Outcome State Fault Refusal := runHandler 0xE9 (.immediate v) handleSbc s

/-- 0xEB, SBC immediate (R320, R128). -/
def execSbcImmEB (v : Byte) (s : State) : Host.Outcome State Fault Refusal := runAliased 0xEB (.immediate v) handleSbc s

/-- 0xED, SBC absolute (R128). -/
def execSbcAbs (w : Addr) (s : State) : Host.Outcome State Fault Refusal := runHandler 0xED (.absolute w) handleSbc s

/-- 0xF1, SBC indirectIndexed (R128). -/
def execSbcIzy (ptr : Byte) (s : State) : Host.Outcome State Fault Refusal := runHandler 0xF1 (.indirectIndexed ptr) handleSbc s

/-- 0xF5, SBC zeroPageX (R128). -/
def execSbcZpx (a : Byte) (s : State) : Host.Outcome State Fault Refusal := runHandler 0xF5 (.zeroPageX a) handleSbc s

/-- 0xF9, SBC absoluteY (R128). -/
def execSbcAby (w : Addr) (s : State) : Host.Outcome State Fault Refusal := runHandler 0xF9 (.absoluteY w) handleSbc s

/-- 0xFD, SBC absoluteX (R128). -/
def execSbcAbx (w : Addr) (s : State) : Host.Outcome State Fault Refusal := runHandler 0xFD (.absoluteX w) handleSbc s

/-- AND (R131). -/
def handleAnd (ctx : Ctx) (s : State) : State :=
  let r := readOperand ctx s
  (r.2.setA (r.2.a &&& r.1)).setZN (r.2.a &&& r.1)

/-- 0x21, AND indexedIndirect (R131). -/
def execAndIzx (ptr : Byte) (s : State) : Host.Outcome State Fault Refusal := runHandler 0x21 (.indexedIndirect ptr) handleAnd s

/-- 0x25, AND zeroPage (R131). -/
def execAndZp (a : Byte) (s : State) : Host.Outcome State Fault Refusal := runHandler 0x25 (.zeroPage a) handleAnd s

/-- 0x29, AND immediate (R131). -/
def execAndImm (v : Byte) (s : State) : Host.Outcome State Fault Refusal := runHandler 0x29 (.immediate v) handleAnd s

/-- 0x2D, AND absolute (R131). -/
def execAndAbs (w : Addr) (s : State) : Host.Outcome State Fault Refusal := runHandler 0x2D (.absolute w) handleAnd s

/-- 0x31, AND indirectIndexed (R131). -/
def execAndIzy (ptr : Byte) (s : State) : Host.Outcome State Fault Refusal := runHandler 0x31 (.indirectIndexed ptr) handleAnd s

/-- 0x35, AND zeroPageX (R131). -/
def execAndZpx (a : Byte) (s : State) : Host.Outcome State Fault Refusal := runHandler 0x35 (.zeroPageX a) handleAnd s

/-- 0x39, AND absoluteY (R131). -/
def execAndAby (w : Addr) (s : State) : Host.Outcome State Fault Refusal := runHandler 0x39 (.absoluteY w) handleAnd s

/-- 0x3D, AND absoluteX (R131). -/
def execAndAbx (w : Addr) (s : State) : Host.Outcome State Fault Refusal := runHandler 0x3D (.absoluteX w) handleAnd s

/-- ORA (R132). -/
def handleOra (ctx : Ctx) (s : State) : State :=
  let r := readOperand ctx s
  (r.2.setA (r.2.a ||| r.1)).setZN (r.2.a ||| r.1)

/-- 0x01, ORA indexedIndirect (R132). -/
def execOraIzx (ptr : Byte) (s : State) : Host.Outcome State Fault Refusal := runHandler 0x01 (.indexedIndirect ptr) handleOra s

/-- 0x05, ORA zeroPage (R132). -/
def execOraZp (a : Byte) (s : State) : Host.Outcome State Fault Refusal := runHandler 0x05 (.zeroPage a) handleOra s

/-- 0x09, ORA immediate (R132). -/
def execOraImm (v : Byte) (s : State) : Host.Outcome State Fault Refusal := runHandler 0x09 (.immediate v) handleOra s

/-- 0x0D, ORA absolute (R132). -/
def execOraAbs (w : Addr) (s : State) : Host.Outcome State Fault Refusal := runHandler 0x0D (.absolute w) handleOra s

/-- 0x11, ORA indirectIndexed (R132). -/
def execOraIzy (ptr : Byte) (s : State) : Host.Outcome State Fault Refusal := runHandler 0x11 (.indirectIndexed ptr) handleOra s

/-- 0x15, ORA zeroPageX (R132). -/
def execOraZpx (a : Byte) (s : State) : Host.Outcome State Fault Refusal := runHandler 0x15 (.zeroPageX a) handleOra s

/-- 0x19, ORA absoluteY (R132). -/
def execOraAby (w : Addr) (s : State) : Host.Outcome State Fault Refusal := runHandler 0x19 (.absoluteY w) handleOra s

/-- 0x1D, ORA absoluteX (R132). -/
def execOraAbx (w : Addr) (s : State) : Host.Outcome State Fault Refusal := runHandler 0x1D (.absoluteX w) handleOra s

/-- EOR (R133). -/
def handleEor (ctx : Ctx) (s : State) : State :=
  let r := readOperand ctx s
  (r.2.setA (r.2.a ^^^ r.1)).setZN (r.2.a ^^^ r.1)

/-- 0x41, EOR indexedIndirect (R133). -/
def execEorIzx (ptr : Byte) (s : State) : Host.Outcome State Fault Refusal := runHandler 0x41 (.indexedIndirect ptr) handleEor s

/-- 0x45, EOR zeroPage (R133). -/
def execEorZp (a : Byte) (s : State) : Host.Outcome State Fault Refusal := runHandler 0x45 (.zeroPage a) handleEor s

/-- 0x49, EOR immediate (R133). -/
def execEorImm (v : Byte) (s : State) : Host.Outcome State Fault Refusal := runHandler 0x49 (.immediate v) handleEor s

/-- 0x4D, EOR absolute (R133). -/
def execEorAbs (w : Addr) (s : State) : Host.Outcome State Fault Refusal := runHandler 0x4D (.absolute w) handleEor s

/-- 0x51, EOR indirectIndexed (R133). -/
def execEorIzy (ptr : Byte) (s : State) : Host.Outcome State Fault Refusal := runHandler 0x51 (.indirectIndexed ptr) handleEor s

/-- 0x55, EOR zeroPageX (R133). -/
def execEorZpx (a : Byte) (s : State) : Host.Outcome State Fault Refusal := runHandler 0x55 (.zeroPageX a) handleEor s

/-- 0x59, EOR absoluteY (R133). -/
def execEorAby (w : Addr) (s : State) : Host.Outcome State Fault Refusal := runHandler 0x59 (.absoluteY w) handleEor s

/-- 0x5D, EOR absoluteX (R133). -/
def execEorAbx (w : Addr) (s : State) : Host.Outcome State Fault Refusal := runHandler 0x5D (.absoluteX w) handleEor s

/-- CMP (R134). -/
def handleCmp (ctx : Ctx) (s : State) : State :=
  let r := readOperand ctx s
  r.2.compare r.2.a r.1

/-- 0xC1, CMP indexedIndirect (R134). -/
def execCmpIzx (ptr : Byte) (s : State) : Host.Outcome State Fault Refusal := runHandler 0xC1 (.indexedIndirect ptr) handleCmp s

/-- 0xC5, CMP zeroPage (R134). -/
def execCmpZp (a : Byte) (s : State) : Host.Outcome State Fault Refusal := runHandler 0xC5 (.zeroPage a) handleCmp s

/-- 0xC9, CMP immediate (R134). -/
def execCmpImm (v : Byte) (s : State) : Host.Outcome State Fault Refusal := runHandler 0xC9 (.immediate v) handleCmp s

/-- 0xCD, CMP absolute (R134). -/
def execCmpAbs (w : Addr) (s : State) : Host.Outcome State Fault Refusal := runHandler 0xCD (.absolute w) handleCmp s

/-- 0xD1, CMP indirectIndexed (R134). -/
def execCmpIzy (ptr : Byte) (s : State) : Host.Outcome State Fault Refusal := runHandler 0xD1 (.indirectIndexed ptr) handleCmp s

/-- 0xD5, CMP zeroPageX (R134). -/
def execCmpZpx (a : Byte) (s : State) : Host.Outcome State Fault Refusal := runHandler 0xD5 (.zeroPageX a) handleCmp s

/-- 0xD9, CMP absoluteY (R134). -/
def execCmpAby (w : Addr) (s : State) : Host.Outcome State Fault Refusal := runHandler 0xD9 (.absoluteY w) handleCmp s

/-- 0xDD, CMP absoluteX (R134). -/
def execCmpAbx (w : Addr) (s : State) : Host.Outcome State Fault Refusal := runHandler 0xDD (.absoluteX w) handleCmp s

/-- CPX (R135). -/
def handleCpx (ctx : Ctx) (s : State) : State :=
  let r := readOperand ctx s
  r.2.compare r.2.x r.1

/-- 0xE0, CPX immediate (R135). -/
def execCpxImm (v : Byte) (s : State) : Host.Outcome State Fault Refusal := runHandler 0xE0 (.immediate v) handleCpx s

/-- 0xE4, CPX zeroPage (R135). -/
def execCpxZp (a : Byte) (s : State) : Host.Outcome State Fault Refusal := runHandler 0xE4 (.zeroPage a) handleCpx s

/-- 0xEC, CPX absolute (R135). -/
def execCpxAbs (w : Addr) (s : State) : Host.Outcome State Fault Refusal := runHandler 0xEC (.absolute w) handleCpx s

/-- CPY (R136). -/
def handleCpy (ctx : Ctx) (s : State) : State :=
  let r := readOperand ctx s
  r.2.compare r.2.y r.1

/-- 0xC0, CPY immediate (R136). -/
def execCpyImm (v : Byte) (s : State) : Host.Outcome State Fault Refusal := runHandler 0xC0 (.immediate v) handleCpy s

/-- 0xC4, CPY zeroPage (R136). -/
def execCpyZp (a : Byte) (s : State) : Host.Outcome State Fault Refusal := runHandler 0xC4 (.zeroPage a) handleCpy s

/-- 0xCC, CPY absolute (R136). -/
def execCpyAbs (w : Addr) (s : State) : Host.Outcome State Fault Refusal := runHandler 0xCC (.absolute w) handleCpy s

/-- BIT (R137). -/
def handleBit (ctx : Ctx) (s : State) : State :=
  let r := readOperand ctx s
  r.2.bitTest r.1

/-- 0x24, BIT zeroPage (R137). -/
def execBitZp (a : Byte) (s : State) : Host.Outcome State Fault Refusal := runHandler 0x24 (.zeroPage a) handleBit s

/-- 0x2C, BIT absolute (R137). -/
def execBitAbs (w : Addr) (s : State) : Host.Outcome State Fault Refusal := runHandler 0x2C (.absolute w) handleBit s

end Sys2Proof.Machine
end

