-- ==== Sys2Proof/Machine/Control.lean ====
section
/-! DEFINITION. Jumps, calls, returns, BRK and branches (spec/46_control.md R160 to R176).
A handler per mnemonic (R99), run with the context of R93, and a meaning per opcode-table row. -/

namespace Sys2Proof.Machine

/-- `branch(cond)` (R166): taken, PC becomes the target and 1 cycle is added, 2 if the target's page is not that of the
instruction after the branch. -/
def branch (cond : Bool) (ctx : Ctx) (s : State) : State :=
  if cond then (s.setPc ctx.ea).addCycles (1 + if pagesDiffer ctx.pc ctx.ea then 1 else 0) else s

/-- JMP (R160). -/
def handleJmp (ctx : Ctx) (s : State) : State :=
  s.setPc ctx.ea

/-- 0x4C, JMP absolute (R160). -/
def execJmpAbs (w : Addr) (s : State) : Host.Outcome State Fault Refusal := runHandler 0x4C (.absolute w) handleJmp s

/-- 0x6C, JMP indirect (R160). -/
def execJmpInd (w : Addr) (s : State) : Host.Outcome State Fault Refusal := runHandler 0x6C (.indirect w) handleJmp s

/-- JSR (R161). -/
def handleJsr (ctx : Ctx) (s : State) : State :=
  (s.push16 (ctx.pc - 1)).setPc ctx.ea

/-- 0x20, JSR absolute (R161). -/
def execJsr (w : Addr) (s : State) : Host.Outcome State Fault Refusal := runHandler 0x20 (.absolute w) handleJsr s

/-- RTS (R162). -/
def handleRts (_ctx : Ctx) (s : State) : State :=
  let r := s.pull16
  r.2.setPc (r.1 + 1)

/-- 0x60, RTS (R162). -/
def execRts (s : State) : Host.Outcome State Fault Refusal := runHandler 0x60 .implied handleRts s

/-- RTI (R163). -/
def handleRti (_ctx : Ctx) (s : State) : State :=
  s.returnFromTrap

/-- 0x40, RTI (R163). -/
def execRti (s : State) : Host.Outcome State Fault Refusal := runHandler 0x40 .implied handleRti s

/-- BRK (R164). -/
def handleBrk (ctx : Ctx) (s : State) : State :=
  s.enterTrap (ctx.pc + 1) true irqVector

/-- 0x00, BRK (R164). -/
def execBrk (s : State) : Host.Outcome State Fault Refusal := runHandler 0x00 .implied handleBrk s

/-- BCC (R169). -/
def handleBcc (ctx : Ctx) (s : State) : State :=
  branch (!s.c) ctx s

/-- 0x90, BCC relative (R169). -/
def execBcc (off : Byte) (s : State) : Host.Outcome State Fault Refusal := runHandler 0x90 (.relative off) handleBcc s

/-- BCS (R170). -/
def handleBcs (ctx : Ctx) (s : State) : State :=
  branch s.c ctx s

/-- 0xB0, BCS relative (R170). -/
def execBcs (off : Byte) (s : State) : Host.Outcome State Fault Refusal := runHandler 0xB0 (.relative off) handleBcs s

/-- BEQ (R171). -/
def handleBeq (ctx : Ctx) (s : State) : State :=
  branch s.z ctx s

/-- 0xF0, BEQ relative (R171). -/
def execBeq (off : Byte) (s : State) : Host.Outcome State Fault Refusal := runHandler 0xF0 (.relative off) handleBeq s

/-- BMI (R172). -/
def handleBmi (ctx : Ctx) (s : State) : State :=
  branch s.n ctx s

/-- 0x30, BMI relative (R172). -/
def execBmi (off : Byte) (s : State) : Host.Outcome State Fault Refusal := runHandler 0x30 (.relative off) handleBmi s

/-- BNE (R173). -/
def handleBne (ctx : Ctx) (s : State) : State :=
  branch (!s.z) ctx s

/-- 0xD0, BNE relative (R173). -/
def execBne (off : Byte) (s : State) : Host.Outcome State Fault Refusal := runHandler 0xD0 (.relative off) handleBne s

/-- BPL (R174). -/
def handleBpl (ctx : Ctx) (s : State) : State :=
  branch (!s.n) ctx s

/-- 0x10, BPL relative (R174). -/
def execBpl (off : Byte) (s : State) : Host.Outcome State Fault Refusal := runHandler 0x10 (.relative off) handleBpl s

/-- BVC (R175). -/
def handleBvc (ctx : Ctx) (s : State) : State :=
  branch (!s.v) ctx s

/-- 0x50, BVC relative (R175). -/
def execBvc (off : Byte) (s : State) : Host.Outcome State Fault Refusal := runHandler 0x50 (.relative off) handleBvc s

/-- BVS (R176). -/
def handleBvs (ctx : Ctx) (s : State) : State :=
  branch s.v ctx s

/-- 0x70, BVS relative (R176). -/
def execBvs (off : Byte) (s : State) : Host.Outcome State Fault Refusal := runHandler 0x70 (.relative off) handleBvs s

end Sys2Proof.Machine
end

