-- ==== Sys2Proof/Machine/FlagsNop.lean ====
section
/-! DEFINITION. Flag instructions and NOP with its alias slots (spec/47_flags_nop.md R180 to R187, spec/48_unimplemented.md R320).
A handler per mnemonic (R99), run with the context of R93, and a meaning per opcode-table row. -/

namespace Sys2Proof.Machine

/-- CLC (R180). -/
def handleClc (_ctx : Ctx) (s : State) : State :=
  s.setC false

/-- 0x18, CLC (R180). -/
def execClc (s : State) : Host.Outcome State Fault Refusal := runHandler 0x18 .implied handleClc s

/-- CLD (R181). -/
def handleCld (_ctx : Ctx) (s : State) : State :=
  s.setD false

/-- 0xD8, CLD (R181). -/
def execCld (s : State) : Host.Outcome State Fault Refusal := runHandler 0xD8 .implied handleCld s

/-- CLI (R182). -/
def handleCli (_ctx : Ctx) (s : State) : State :=
  s.setI false

/-- 0x58, CLI (R182). -/
def execCli (s : State) : Host.Outcome State Fault Refusal := runHandler 0x58 .implied handleCli s

/-- CLV (R183). -/
def handleClv (_ctx : Ctx) (s : State) : State :=
  s.setV false

/-- 0xB8, CLV (R183). -/
def execClv (s : State) : Host.Outcome State Fault Refusal := runHandler 0xB8 .implied handleClv s

/-- SEC (R184). -/
def handleSec (_ctx : Ctx) (s : State) : State :=
  s.setC true

/-- 0x38, SEC (R184). -/
def execSec (s : State) : Host.Outcome State Fault Refusal := runHandler 0x38 .implied handleSec s

/-- SED (R185). -/
def handleSed (_ctx : Ctx) (s : State) : State :=
  s.setD true

/-- 0xF8, SED (R185). -/
def execSed (s : State) : Host.Outcome State Fault Refusal := runHandler 0xF8 .implied handleSed s

/-- SEI (R186). -/
def handleSei (_ctx : Ctx) (s : State) : State :=
  s.setI true

/-- 0x78, SEI (R186). -/
def execSei (s : State) : Host.Outcome State Fault Refusal := runHandler 0x78 .implied handleSei s

/-- NOP (R187). -/
def handleNop (_ctx : Ctx) (s : State) : State :=
  s

/-- 0x04, NOP zeroPage (R320, R187). -/
def execNopZp04 (a : Byte) (s : State) : Host.Outcome State Fault Refusal := runAliased 0x04 (.zeroPage a) handleNop s

/-- 0x0C, NOP absolute (R320, R187). -/
def execNopAbs (w : Addr) (s : State) : Host.Outcome State Fault Refusal := runAliased 0x0C (.absolute w) handleNop s

/-- 0x14, NOP zeroPageX (R320, R187). -/
def execNopZpx14 (a : Byte) (s : State) : Host.Outcome State Fault Refusal := runAliased 0x14 (.zeroPageX a) handleNop s

/-- 0x1A, NOP (R320, R187). -/
def execNop1A (s : State) : Host.Outcome State Fault Refusal := runAliased 0x1A .implied handleNop s

/-- 0x1C, NOP absoluteX (R320, R187). -/
def execNopAbx1C (w : Addr) (s : State) : Host.Outcome State Fault Refusal := runAliased 0x1C (.absoluteX w) handleNop s

/-- 0x34, NOP zeroPageX (R320, R187). -/
def execNopZpx34 (a : Byte) (s : State) : Host.Outcome State Fault Refusal := runAliased 0x34 (.zeroPageX a) handleNop s

/-- 0x3A, NOP (R320, R187). -/
def execNop3A (s : State) : Host.Outcome State Fault Refusal := runAliased 0x3A .implied handleNop s

/-- 0x3C, NOP absoluteX (R320, R187). -/
def execNopAbx3C (w : Addr) (s : State) : Host.Outcome State Fault Refusal := runAliased 0x3C (.absoluteX w) handleNop s

/-- 0x44, NOP zeroPage (R320, R187). -/
def execNopZp44 (a : Byte) (s : State) : Host.Outcome State Fault Refusal := runAliased 0x44 (.zeroPage a) handleNop s

/-- 0x54, NOP zeroPageX (R320, R187). -/
def execNopZpx54 (a : Byte) (s : State) : Host.Outcome State Fault Refusal := runAliased 0x54 (.zeroPageX a) handleNop s

/-- 0x5A, NOP (R320, R187). -/
def execNop5A (s : State) : Host.Outcome State Fault Refusal := runAliased 0x5A .implied handleNop s

/-- 0x5C, NOP absoluteX (R320, R187). -/
def execNopAbx5C (w : Addr) (s : State) : Host.Outcome State Fault Refusal := runAliased 0x5C (.absoluteX w) handleNop s

/-- 0x64, NOP zeroPage (R320, R187). -/
def execNopZp64 (a : Byte) (s : State) : Host.Outcome State Fault Refusal := runAliased 0x64 (.zeroPage a) handleNop s

/-- 0x74, NOP zeroPageX (R320, R187). -/
def execNopZpx74 (a : Byte) (s : State) : Host.Outcome State Fault Refusal := runAliased 0x74 (.zeroPageX a) handleNop s

/-- 0x7A, NOP (R320, R187). -/
def execNop7A (s : State) : Host.Outcome State Fault Refusal := runAliased 0x7A .implied handleNop s

/-- 0x7C, NOP absoluteX (R320, R187). -/
def execNopAbx7C (w : Addr) (s : State) : Host.Outcome State Fault Refusal := runAliased 0x7C (.absoluteX w) handleNop s

/-- 0x80, NOP immediate (R320, R187). -/
def execNopImm80 (v : Byte) (s : State) : Host.Outcome State Fault Refusal := runAliased 0x80 (.immediate v) handleNop s

/-- 0x82, NOP immediate (R320, R187). -/
def execNopImm82 (v : Byte) (s : State) : Host.Outcome State Fault Refusal := runAliased 0x82 (.immediate v) handleNop s

/-- 0x89, NOP immediate (R320, R187). -/
def execNopImm89 (v : Byte) (s : State) : Host.Outcome State Fault Refusal := runAliased 0x89 (.immediate v) handleNop s

/-- 0xC2, NOP immediate (R320, R187). -/
def execNopImmC2 (v : Byte) (s : State) : Host.Outcome State Fault Refusal := runAliased 0xC2 (.immediate v) handleNop s

/-- 0xD4, NOP zeroPageX (R320, R187). -/
def execNopZpxD4 (a : Byte) (s : State) : Host.Outcome State Fault Refusal := runAliased 0xD4 (.zeroPageX a) handleNop s

/-- 0xDA, NOP (R320, R187). -/
def execNopDA (s : State) : Host.Outcome State Fault Refusal := runAliased 0xDA .implied handleNop s

/-- 0xDC, NOP absoluteX (R320, R187). -/
def execNopAbxDC (w : Addr) (s : State) : Host.Outcome State Fault Refusal := runAliased 0xDC (.absoluteX w) handleNop s

/-- 0xE2, NOP immediate (R320, R187). -/
def execNopImmE2 (v : Byte) (s : State) : Host.Outcome State Fault Refusal := runAliased 0xE2 (.immediate v) handleNop s

/-- 0xEA, NOP (R187). -/
def execNop (s : State) : Host.Outcome State Fault Refusal := runHandler 0xEA .implied handleNop s

/-- 0xF4, NOP zeroPageX (R320, R187). -/
def execNopZpxF4 (a : Byte) (s : State) : Host.Outcome State Fault Refusal := runAliased 0xF4 (.zeroPageX a) handleNop s

/-- 0xFA, NOP (R320, R187). -/
def execNopFA (s : State) : Host.Outcome State Fault Refusal := runAliased 0xFA .implied handleNop s

/-- 0xFC, NOP absoluteX (R320, R187). -/
def execNopAbxFC (w : Addr) (s : State) : Host.Outcome State Fault Refusal := runAliased 0xFC (.absoluteX w) handleNop s

end Sys2Proof.Machine
end

