-- ==== Sys2Proof/Machine/IncDec.lean ====
section
/-! DEFINITION. Increments and decrements (spec/44_inc_dec.md R140 to R145).
A handler per mnemonic (R99), run with the context of R93, and a meaning per opcode-table row. -/

namespace Sys2Proof.Machine

/-- INC (R140). -/
def handleInc (ctx : Ctx) (s : State) : State :=
  let r := readOperand ctx s
  (writeback ctx (r.1 + 1) r.2).setZN (r.1 + 1)

/-- 0xE6, INC zeroPage (R140). -/
def execIncZp (a : Byte) (s : State) : Host.Outcome State Fault Refusal := runHandler 0xE6 (.zeroPage a) handleInc s

/-- 0xEE, INC absolute (R140). -/
def execIncAbs (w : Addr) (s : State) : Host.Outcome State Fault Refusal := runHandler 0xEE (.absolute w) handleInc s

/-- 0xF6, INC zeroPageX (R140). -/
def execIncZpx (a : Byte) (s : State) : Host.Outcome State Fault Refusal := runHandler 0xF6 (.zeroPageX a) handleInc s

/-- 0xFE, INC absoluteX (R140). -/
def execIncAbx (w : Addr) (s : State) : Host.Outcome State Fault Refusal := runHandler 0xFE (.absoluteX w) handleInc s

/-- DEC (R141). -/
def handleDec (ctx : Ctx) (s : State) : State :=
  let r := readOperand ctx s
  (writeback ctx (r.1 - 1) r.2).setZN (r.1 - 1)

/-- 0xC6, DEC zeroPage (R141). -/
def execDecZp (a : Byte) (s : State) : Host.Outcome State Fault Refusal := runHandler 0xC6 (.zeroPage a) handleDec s

/-- 0xCE, DEC absolute (R141). -/
def execDecAbs (w : Addr) (s : State) : Host.Outcome State Fault Refusal := runHandler 0xCE (.absolute w) handleDec s

/-- 0xD6, DEC zeroPageX (R141). -/
def execDecZpx (a : Byte) (s : State) : Host.Outcome State Fault Refusal := runHandler 0xD6 (.zeroPageX a) handleDec s

/-- 0xDE, DEC absoluteX (R141). -/
def execDecAbx (w : Addr) (s : State) : Host.Outcome State Fault Refusal := runHandler 0xDE (.absoluteX w) handleDec s

/-- INX (R142). -/
def handleInx (_ctx : Ctx) (s : State) : State :=
  (s.setX (s.x + 1)).setZN (s.x + 1)

/-- 0xE8, INX (R142). -/
def execInx (s : State) : Host.Outcome State Fault Refusal := runHandler 0xE8 .implied handleInx s

/-- INY (R143). -/
def handleIny (_ctx : Ctx) (s : State) : State :=
  (s.setY (s.y + 1)).setZN (s.y + 1)

/-- 0xC8, INY (R143). -/
def execIny (s : State) : Host.Outcome State Fault Refusal := runHandler 0xC8 .implied handleIny s

/-- DEX (R144). -/
def handleDex (_ctx : Ctx) (s : State) : State :=
  (s.setX (s.x - 1)).setZN (s.x - 1)

/-- 0xCA, DEX (R144). -/
def execDex (s : State) : Host.Outcome State Fault Refusal := runHandler 0xCA .implied handleDex s

/-- DEY (R145). -/
def handleDey (_ctx : Ctx) (s : State) : State :=
  (s.setY (s.y - 1)).setZN (s.y - 1)

/-- 0x88, DEY (R145). -/
def execDey (s : State) : Host.Outcome State Fault Refusal := runHandler 0x88 .implied handleDey s

end Sys2Proof.Machine
end

