-- ==== Sys2Proof/Machine/LoadStore.lean ====
section
/-! DEFINITION. Loads, stores and register transfers (spec/41_load_store_transfer.md R100 to R111).
A handler per mnemonic (R99), run with the context of R93, and a meaning per opcode-table row. -/

namespace Sys2Proof.Machine

/-- LDA (R100). -/
def handleLda (ctx : Ctx) (s : State) : State :=
  let r := readOperand ctx s
  (r.2.setA r.1).setZN r.1

/-- 0xA1, LDA indexedIndirect (R100). -/
def execLdaIzx (ptr : Byte) (s : State) : Host.Outcome State Fault Refusal := runHandler 0xA1 (.indexedIndirect ptr) handleLda s

/-- 0xA5, LDA zeroPage (R100). -/
def execLdaZp (a : Byte) (s : State) : Host.Outcome State Fault Refusal := runHandler 0xA5 (.zeroPage a) handleLda s

/-- 0xA9, LDA immediate (R100). -/
def execLdaImm (v : Byte) (s : State) : Host.Outcome State Fault Refusal := runHandler 0xA9 (.immediate v) handleLda s

/-- 0xAD, LDA absolute (R100). -/
def execLdaAbs (w : Addr) (s : State) : Host.Outcome State Fault Refusal := runHandler 0xAD (.absolute w) handleLda s

/-- 0xB1, LDA indirectIndexed (R100). -/
def execLdaIzy (ptr : Byte) (s : State) : Host.Outcome State Fault Refusal := runHandler 0xB1 (.indirectIndexed ptr) handleLda s

/-- 0xB5, LDA zeroPageX (R100). -/
def execLdaZpx (a : Byte) (s : State) : Host.Outcome State Fault Refusal := runHandler 0xB5 (.zeroPageX a) handleLda s

/-- 0xB9, LDA absoluteY (R100). -/
def execLdaAby (w : Addr) (s : State) : Host.Outcome State Fault Refusal := runHandler 0xB9 (.absoluteY w) handleLda s

/-- 0xBD, LDA absoluteX (R100). -/
def execLdaAbx (w : Addr) (s : State) : Host.Outcome State Fault Refusal := runHandler 0xBD (.absoluteX w) handleLda s

/-- LDX (R101). -/
def handleLdx (ctx : Ctx) (s : State) : State :=
  let r := readOperand ctx s
  (r.2.setX r.1).setZN r.1

/-- 0xA2, LDX immediate (R101). -/
def execLdxImm (v : Byte) (s : State) : Host.Outcome State Fault Refusal := runHandler 0xA2 (.immediate v) handleLdx s

/-- 0xA6, LDX zeroPage (R101). -/
def execLdxZp (a : Byte) (s : State) : Host.Outcome State Fault Refusal := runHandler 0xA6 (.zeroPage a) handleLdx s

/-- 0xAE, LDX absolute (R101). -/
def execLdxAbs (w : Addr) (s : State) : Host.Outcome State Fault Refusal := runHandler 0xAE (.absolute w) handleLdx s

/-- 0xB6, LDX zeroPageY (R101). -/
def execLdxZpy (a : Byte) (s : State) : Host.Outcome State Fault Refusal := runHandler 0xB6 (.zeroPageY a) handleLdx s

/-- 0xBE, LDX absoluteY (R101). -/
def execLdxAby (w : Addr) (s : State) : Host.Outcome State Fault Refusal := runHandler 0xBE (.absoluteY w) handleLdx s

/-- LDY (R102). -/
def handleLdy (ctx : Ctx) (s : State) : State :=
  let r := readOperand ctx s
  (r.2.setY r.1).setZN r.1

/-- 0xA0, LDY immediate (R102). -/
def execLdyImm (v : Byte) (s : State) : Host.Outcome State Fault Refusal := runHandler 0xA0 (.immediate v) handleLdy s

/-- 0xA4, LDY zeroPage (R102). -/
def execLdyZp (a : Byte) (s : State) : Host.Outcome State Fault Refusal := runHandler 0xA4 (.zeroPage a) handleLdy s

/-- 0xAC, LDY absolute (R102). -/
def execLdyAbs (w : Addr) (s : State) : Host.Outcome State Fault Refusal := runHandler 0xAC (.absolute w) handleLdy s

/-- 0xB4, LDY zeroPageX (R102). -/
def execLdyZpx (a : Byte) (s : State) : Host.Outcome State Fault Refusal := runHandler 0xB4 (.zeroPageX a) handleLdy s

/-- 0xBC, LDY absoluteX (R102). -/
def execLdyAbx (w : Addr) (s : State) : Host.Outcome State Fault Refusal := runHandler 0xBC (.absoluteX w) handleLdy s

/-- STA (R103). -/
def handleSta (ctx : Ctx) (s : State) : State :=
  s.writeByte ctx.ea s.a

/-- 0x81, STA indexedIndirect (R103). -/
def execStaIzx (ptr : Byte) (s : State) : Host.Outcome State Fault Refusal := runHandler 0x81 (.indexedIndirect ptr) handleSta s

/-- 0x85, STA zeroPage (R103). -/
def execStaZp (a : Byte) (s : State) : Host.Outcome State Fault Refusal := runHandler 0x85 (.zeroPage a) handleSta s

/-- 0x8D, STA absolute (R103). -/
def execStaAbs (w : Addr) (s : State) : Host.Outcome State Fault Refusal := runHandler 0x8D (.absolute w) handleSta s

/-- 0x91, STA indirectIndexed (R103). -/
def execStaIzy (ptr : Byte) (s : State) : Host.Outcome State Fault Refusal := runHandler 0x91 (.indirectIndexed ptr) handleSta s

/-- 0x95, STA zeroPageX (R103). -/
def execStaZpx (a : Byte) (s : State) : Host.Outcome State Fault Refusal := runHandler 0x95 (.zeroPageX a) handleSta s

/-- 0x99, STA absoluteY (R103). -/
def execStaAby (w : Addr) (s : State) : Host.Outcome State Fault Refusal := runHandler 0x99 (.absoluteY w) handleSta s

/-- 0x9D, STA absoluteX (R103). -/
def execStaAbx (w : Addr) (s : State) : Host.Outcome State Fault Refusal := runHandler 0x9D (.absoluteX w) handleSta s

/-- STX (R104). -/
def handleStx (ctx : Ctx) (s : State) : State :=
  s.writeByte ctx.ea s.x

/-- 0x86, STX zeroPage (R104). -/
def execStxZp (a : Byte) (s : State) : Host.Outcome State Fault Refusal := runHandler 0x86 (.zeroPage a) handleStx s

/-- 0x8E, STX absolute (R104). -/
def execStxAbs (w : Addr) (s : State) : Host.Outcome State Fault Refusal := runHandler 0x8E (.absolute w) handleStx s

/-- 0x96, STX zeroPageY (R104). -/
def execStxZpy (a : Byte) (s : State) : Host.Outcome State Fault Refusal := runHandler 0x96 (.zeroPageY a) handleStx s

/-- STY (R105). -/
def handleSty (ctx : Ctx) (s : State) : State :=
  s.writeByte ctx.ea s.y

/-- 0x84, STY zeroPage (R105). -/
def execStyZp (a : Byte) (s : State) : Host.Outcome State Fault Refusal := runHandler 0x84 (.zeroPage a) handleSty s

/-- 0x8C, STY absolute (R105). -/
def execStyAbs (w : Addr) (s : State) : Host.Outcome State Fault Refusal := runHandler 0x8C (.absolute w) handleSty s

/-- 0x94, STY zeroPageX (R105). -/
def execStyZpx (a : Byte) (s : State) : Host.Outcome State Fault Refusal := runHandler 0x94 (.zeroPageX a) handleSty s

/-- TAX (R106). -/
def handleTax (_ctx : Ctx) (s : State) : State :=
  (s.setX s.a).setZN s.a

/-- 0xAA, TAX (R106). -/
def execTax (s : State) : Host.Outcome State Fault Refusal := runHandler 0xAA .implied handleTax s

/-- TAY (R107). -/
def handleTay (_ctx : Ctx) (s : State) : State :=
  (s.setY s.a).setZN s.a

/-- 0xA8, TAY (R107). -/
def execTay (s : State) : Host.Outcome State Fault Refusal := runHandler 0xA8 .implied handleTay s

/-- TXA (R108). -/
def handleTxa (_ctx : Ctx) (s : State) : State :=
  (s.setA s.x).setZN s.x

/-- 0x8A, TXA (R108). -/
def execTxa (s : State) : Host.Outcome State Fault Refusal := runHandler 0x8A .implied handleTxa s

/-- TYA (R109). -/
def handleTya (_ctx : Ctx) (s : State) : State :=
  (s.setA s.y).setZN s.y

/-- 0x98, TYA (R109). -/
def execTya (s : State) : Host.Outcome State Fault Refusal := runHandler 0x98 .implied handleTya s

/-- TSX (R110). -/
def handleTsx (_ctx : Ctx) (s : State) : State :=
  (s.setX s.sp).setZN s.sp

/-- 0xBA, TSX (R110). -/
def execTsx (s : State) : Host.Outcome State Fault Refusal := runHandler 0xBA .implied handleTsx s

/-- TXS (R111). -/
def handleTxs (_ctx : Ctx) (s : State) : State :=
  s.setSp s.x

/-- 0x9A, TXS (R111). -/
def execTxs (s : State) : Host.Outcome State Fault Refusal := runHandler 0x9A .implied handleTxs s

end Sys2Proof.Machine
end

