-- ==== Sys2Proof/Machine/Shift.lean ====
section
/-! DEFINITION. Shifts and rotates (spec/45_shift_rotate.md R150 to R153).
A handler per mnemonic (R99), run with the context of R93, and a meaning per opcode-table row. -/

namespace Sys2Proof.Machine

/-- One bit's shift (R150 to R153): `f` gives the result and the bit shifted out from the operand and the old carry; the
operand is read once and the result written once to the same place. -/
def shiftOp (f : Byte → Bool → Byte × Bool) (ctx : Ctx) (s : State) : State :=
  let r := readOperand ctx s
  let w := f r.1 r.2.c
  (writeback ctx w.1 (r.2.setC w.2)).setZN w.1

/-- ASL (R150). -/
def handleAsl (ctx : Ctx) (s : State) : State :=
  shiftOp (fun v _ => (v <<< 1, v.getLsbD 7)) ctx s

/-- 0x06, ASL zeroPage (R150). -/
def execAslZp (a : Byte) (s : State) : Host.Outcome State Fault Refusal := runHandler 0x06 (.zeroPage a) handleAsl s

/-- 0x0A, ASL accumulator (R150). -/
def execAslAcc (s : State) : Host.Outcome State Fault Refusal := runHandler 0x0A .accumulator handleAsl s

/-- 0x0E, ASL absolute (R150). -/
def execAslAbs (w : Addr) (s : State) : Host.Outcome State Fault Refusal := runHandler 0x0E (.absolute w) handleAsl s

/-- 0x16, ASL zeroPageX (R150). -/
def execAslZpx (a : Byte) (s : State) : Host.Outcome State Fault Refusal := runHandler 0x16 (.zeroPageX a) handleAsl s

/-- 0x1E, ASL absoluteX (R150). -/
def execAslAbx (w : Addr) (s : State) : Host.Outcome State Fault Refusal := runHandler 0x1E (.absoluteX w) handleAsl s

/-- LSR (R151). -/
def handleLsr (ctx : Ctx) (s : State) : State :=
  shiftOp (fun v _ => (v >>> 1, v.getLsbD 0)) ctx s

/-- 0x46, LSR zeroPage (R151). -/
def execLsrZp (a : Byte) (s : State) : Host.Outcome State Fault Refusal := runHandler 0x46 (.zeroPage a) handleLsr s

/-- 0x4A, LSR accumulator (R151). -/
def execLsrAcc (s : State) : Host.Outcome State Fault Refusal := runHandler 0x4A .accumulator handleLsr s

/-- 0x4E, LSR absolute (R151). -/
def execLsrAbs (w : Addr) (s : State) : Host.Outcome State Fault Refusal := runHandler 0x4E (.absolute w) handleLsr s

/-- 0x56, LSR zeroPageX (R151). -/
def execLsrZpx (a : Byte) (s : State) : Host.Outcome State Fault Refusal := runHandler 0x56 (.zeroPageX a) handleLsr s

/-- 0x5E, LSR absoluteX (R151). -/
def execLsrAbx (w : Addr) (s : State) : Host.Outcome State Fault Refusal := runHandler 0x5E (.absoluteX w) handleLsr s

/-- ROL (R152). -/
def handleRol (ctx : Ctx) (s : State) : State :=
  shiftOp (fun v c => ((v <<< 1) ||| flagBit c 0, v.getLsbD 7)) ctx s

/-- 0x26, ROL zeroPage (R152). -/
def execRolZp (a : Byte) (s : State) : Host.Outcome State Fault Refusal := runHandler 0x26 (.zeroPage a) handleRol s

/-- 0x2A, ROL accumulator (R152). -/
def execRolAcc (s : State) : Host.Outcome State Fault Refusal := runHandler 0x2A .accumulator handleRol s

/-- 0x2E, ROL absolute (R152). -/
def execRolAbs (w : Addr) (s : State) : Host.Outcome State Fault Refusal := runHandler 0x2E (.absolute w) handleRol s

/-- 0x36, ROL zeroPageX (R152). -/
def execRolZpx (a : Byte) (s : State) : Host.Outcome State Fault Refusal := runHandler 0x36 (.zeroPageX a) handleRol s

/-- 0x3E, ROL absoluteX (R152). -/
def execRolAbx (w : Addr) (s : State) : Host.Outcome State Fault Refusal := runHandler 0x3E (.absoluteX w) handleRol s

/-- ROR (R153). -/
def handleRor (ctx : Ctx) (s : State) : State :=
  shiftOp (fun v c => ((v >>> 1) ||| flagBit c 7, v.getLsbD 0)) ctx s

/-- 0x66, ROR zeroPage (R153). -/
def execRorZp (a : Byte) (s : State) : Host.Outcome State Fault Refusal := runHandler 0x66 (.zeroPage a) handleRor s

/-- 0x6A, ROR accumulator (R153). -/
def execRorAcc (s : State) : Host.Outcome State Fault Refusal := runHandler 0x6A .accumulator handleRor s

/-- 0x6E, ROR absolute (R153). -/
def execRorAbs (w : Addr) (s : State) : Host.Outcome State Fault Refusal := runHandler 0x6E (.absolute w) handleRor s

/-- 0x76, ROR zeroPageX (R153). -/
def execRorZpx (a : Byte) (s : State) : Host.Outcome State Fault Refusal := runHandler 0x76 (.zeroPageX a) handleRor s

/-- 0x7E, ROR absoluteX (R153). -/
def execRorAbx (w : Addr) (s : State) : Host.Outcome State Fault Refusal := runHandler 0x7E (.absoluteX w) handleRor s

end Sys2Proof.Machine
end

