-- ==== Sys2Proof/Machine/Stack.lean ====
section
/-! DEFINITION. Stack instructions (spec/42_stack.md R120 to R123).
A handler per mnemonic (R99), run with the context of R93, and a meaning per opcode-table row. -/

namespace Sys2Proof.Machine

/-- PHA (R120). -/
def handlePha (_ctx : Ctx) (s : State) : State :=
  s.push s.a

/-- 0x48, PHA (R120). -/
def execPha (s : State) : Host.Outcome State Fault Refusal := runHandler 0x48 .implied handlePha s

/-- PHP (R121). -/
def handlePhp (_ctx : Ctx) (s : State) : State :=
  s.push (s.pack true)

/-- 0x08, PHP (R121). -/
def execPhp (s : State) : Host.Outcome State Fault Refusal := runHandler 0x08 .implied handlePhp s

/-- PLA (R122). -/
def handlePla (_ctx : Ctx) (s : State) : State :=
  let r := s.pull
  (r.2.setA r.1).setZN r.1

/-- 0x68, PLA (R122). -/
def execPla (s : State) : Host.Outcome State Fault Refusal := runHandler 0x68 .implied handlePla s

/-- PLP (R123). -/
def handlePlp (_ctx : Ctx) (s : State) : State :=
  let r := s.pull
  r.2.unpack r.1

/-- 0x28, PLP (R123). -/
def execPlp (s : State) : Host.Outcome State Fault Refusal := runHandler 0x28 .implied handlePlp s

end Sys2Proof.Machine
end

