-- ==== Sys2Proof/Machine/Unimplemented.lean ====
section
/-! DEFINITION. Opcodes without a handler (spec/48_unimplemented.md R300 to R319): PC and cycles advance by the table, IllegalOpcode is recorded and nothing else changes. -/

namespace Sys2Proof.Machine

/-- 0x02, KIL (R301). -/
def execKil02 (s : State) : Host.Outcome State Fault Refusal := runIllegal 0x02 .implied s

/-- 0x12, KIL (R301). -/
def execKil12 (s : State) : Host.Outcome State Fault Refusal := runIllegal 0x12 .implied s

/-- 0x22, KIL (R301). -/
def execKil22 (s : State) : Host.Outcome State Fault Refusal := runIllegal 0x22 .implied s

/-- 0x32, KIL (R301). -/
def execKil32 (s : State) : Host.Outcome State Fault Refusal := runIllegal 0x32 .implied s

/-- 0x42, KIL (R301). -/
def execKil42 (s : State) : Host.Outcome State Fault Refusal := runIllegal 0x42 .implied s

/-- 0x52, KIL (R301). -/
def execKil52 (s : State) : Host.Outcome State Fault Refusal := runIllegal 0x52 .implied s

/-- 0x62, KIL (R301). -/
def execKil62 (s : State) : Host.Outcome State Fault Refusal := runIllegal 0x62 .implied s

/-- 0x72, KIL (R301). -/
def execKil72 (s : State) : Host.Outcome State Fault Refusal := runIllegal 0x72 .implied s

/-- 0x92, KIL (R301). -/
def execKil92 (s : State) : Host.Outcome State Fault Refusal := runIllegal 0x92 .implied s

/-- 0xB2, KIL (R301). -/
def execKilB2 (s : State) : Host.Outcome State Fault Refusal := runIllegal 0xB2 .implied s

/-- 0xD2, KIL (R301). -/
def execKilD2 (s : State) : Host.Outcome State Fault Refusal := runIllegal 0xD2 .implied s

/-- 0xF2, KIL (R301). -/
def execKilF2 (s : State) : Host.Outcome State Fault Refusal := runIllegal 0xF2 .implied s

/-- 0x03, SLO indexedIndirect (R302). -/
def execSloIzx (ptr : Byte) (s : State) : Host.Outcome State Fault Refusal := runIllegal 0x03 (.indexedIndirect ptr) s

/-- 0x07, SLO zeroPage (R302). -/
def execSloZp (a : Byte) (s : State) : Host.Outcome State Fault Refusal := runIllegal 0x07 (.zeroPage a) s

/-- 0x0F, SLO absolute (R302). -/
def execSloAbs (w : Addr) (s : State) : Host.Outcome State Fault Refusal := runIllegal 0x0F (.absolute w) s

/-- 0x13, SLO indirectIndexed (R302). -/
def execSloIzy (ptr : Byte) (s : State) : Host.Outcome State Fault Refusal := runIllegal 0x13 (.indirectIndexed ptr) s

/-- 0x17, SLO zeroPageX (R302). -/
def execSloZpx (a : Byte) (s : State) : Host.Outcome State Fault Refusal := runIllegal 0x17 (.zeroPageX a) s

/-- 0x1B, SLO absoluteY (R302). -/
def execSloAby (w : Addr) (s : State) : Host.Outcome State Fault Refusal := runIllegal 0x1B (.absoluteY w) s

/-- 0x1F, SLO absoluteX (R302). -/
def execSloAbx (w : Addr) (s : State) : Host.Outcome State Fault Refusal := runIllegal 0x1F (.absoluteX w) s

/-- 0x23, RLA indexedIndirect (R303). -/
def execRlaIzx (ptr : Byte) (s : State) : Host.Outcome State Fault Refusal := runIllegal 0x23 (.indexedIndirect ptr) s

/-- 0x27, RLA zeroPage (R303). -/
def execRlaZp (a : Byte) (s : State) : Host.Outcome State Fault Refusal := runIllegal 0x27 (.zeroPage a) s

/-- 0x2F, RLA absolute (R303). -/
def execRlaAbs (w : Addr) (s : State) : Host.Outcome State Fault Refusal := runIllegal 0x2F (.absolute w) s

/-- 0x33, RLA indirectIndexed (R303). -/
def execRlaIzy (ptr : Byte) (s : State) : Host.Outcome State Fault Refusal := runIllegal 0x33 (.indirectIndexed ptr) s

/-- 0x37, RLA zeroPageX (R303). -/
def execRlaZpx (a : Byte) (s : State) : Host.Outcome State Fault Refusal := runIllegal 0x37 (.zeroPageX a) s

/-- 0x3B, RLA absoluteY (R303). -/
def execRlaAby (w : Addr) (s : State) : Host.Outcome State Fault Refusal := runIllegal 0x3B (.absoluteY w) s

/-- 0x3F, RLA absoluteX (R303). -/
def execRlaAbx (w : Addr) (s : State) : Host.Outcome State Fault Refusal := runIllegal 0x3F (.absoluteX w) s

/-- 0x43, SRE indexedIndirect (R304). -/
def execSreIzx (ptr : Byte) (s : State) : Host.Outcome State Fault Refusal := runIllegal 0x43 (.indexedIndirect ptr) s

/-- 0x47, SRE zeroPage (R304). -/
def execSreZp (a : Byte) (s : State) : Host.Outcome State Fault Refusal := runIllegal 0x47 (.zeroPage a) s

/-- 0x4F, SRE absolute (R304). -/
def execSreAbs (w : Addr) (s : State) : Host.Outcome State Fault Refusal := runIllegal 0x4F (.absolute w) s

/-- 0x53, SRE indirectIndexed (R304). -/
def execSreIzy (ptr : Byte) (s : State) : Host.Outcome State Fault Refusal := runIllegal 0x53 (.indirectIndexed ptr) s

/-- 0x57, SRE zeroPageX (R304). -/
def execSreZpx (a : Byte) (s : State) : Host.Outcome State Fault Refusal := runIllegal 0x57 (.zeroPageX a) s

/-- 0x5B, SRE absoluteY (R304). -/
def execSreAby (w : Addr) (s : State) : Host.Outcome State Fault Refusal := runIllegal 0x5B (.absoluteY w) s

/-- 0x5F, SRE absoluteX (R304). -/
def execSreAbx (w : Addr) (s : State) : Host.Outcome State Fault Refusal := runIllegal 0x5F (.absoluteX w) s

/-- 0x63, RRA indexedIndirect (R305). -/
def execRraIzx (ptr : Byte) (s : State) : Host.Outcome State Fault Refusal := runIllegal 0x63 (.indexedIndirect ptr) s

/-- 0x67, RRA zeroPage (R305). -/
def execRraZp (a : Byte) (s : State) : Host.Outcome State Fault Refusal := runIllegal 0x67 (.zeroPage a) s

/-- 0x6F, RRA absolute (R305). -/
def execRraAbs (w : Addr) (s : State) : Host.Outcome State Fault Refusal := runIllegal 0x6F (.absolute w) s

/-- 0x73, RRA indirectIndexed (R305). -/
def execRraIzy (ptr : Byte) (s : State) : Host.Outcome State Fault Refusal := runIllegal 0x73 (.indirectIndexed ptr) s

/-- 0x77, RRA zeroPageX (R305). -/
def execRraZpx (a : Byte) (s : State) : Host.Outcome State Fault Refusal := runIllegal 0x77 (.zeroPageX a) s

/-- 0x7B, RRA absoluteY (R305). -/
def execRraAby (w : Addr) (s : State) : Host.Outcome State Fault Refusal := runIllegal 0x7B (.absoluteY w) s

/-- 0x7F, RRA absoluteX (R305). -/
def execRraAbx (w : Addr) (s : State) : Host.Outcome State Fault Refusal := runIllegal 0x7F (.absoluteX w) s

/-- 0x83, SAX indexedIndirect (R306). -/
def execSaxIzx (ptr : Byte) (s : State) : Host.Outcome State Fault Refusal := runIllegal 0x83 (.indexedIndirect ptr) s

/-- 0x87, SAX zeroPage (R306). -/
def execSaxZp (a : Byte) (s : State) : Host.Outcome State Fault Refusal := runIllegal 0x87 (.zeroPage a) s

/-- 0x8F, SAX absolute (R306). -/
def execSaxAbs (w : Addr) (s : State) : Host.Outcome State Fault Refusal := runIllegal 0x8F (.absolute w) s

/-- 0x97, SAX zeroPageY (R306). -/
def execSaxZpy (a : Byte) (s : State) : Host.Outcome State Fault Refusal := runIllegal 0x97 (.zeroPageY a) s

/-- 0xA3, LAX indexedIndirect (R307). -/
def execLaxIzx (ptr : Byte) (s : State) : Host.Outcome State Fault Refusal := runIllegal 0xA3 (.indexedIndirect ptr) s

/-- 0xA7, LAX zeroPage (R307). -/
def execLaxZp (a : Byte) (s : State) : Host.Outcome State Fault Refusal := runIllegal 0xA7 (.zeroPage a) s

/-- 0xAB, LAX immediate (R307). -/
def execLaxImm (v : Byte) (s : State) : Host.Outcome State Fault Refusal := runIllegal 0xAB (.immediate v) s

/-- 0xAF, LAX absolute (R307). -/
def execLaxAbs (w : Addr) (s : State) : Host.Outcome State Fault Refusal := runIllegal 0xAF (.absolute w) s

/-- 0xB3, LAX indirectIndexed (R307). -/
def execLaxIzy (ptr : Byte) (s : State) : Host.Outcome State Fault Refusal := runIllegal 0xB3 (.indirectIndexed ptr) s

/-- 0xB7, LAX zeroPageY (R307). -/
def execLaxZpy (a : Byte) (s : State) : Host.Outcome State Fault Refusal := runIllegal 0xB7 (.zeroPageY a) s

/-- 0xBF, LAX absoluteY (R307). -/
def execLaxAby (w : Addr) (s : State) : Host.Outcome State Fault Refusal := runIllegal 0xBF (.absoluteY w) s

/-- 0xC3, DCP indexedIndirect (R308). -/
def execDcpIzx (ptr : Byte) (s : State) : Host.Outcome State Fault Refusal := runIllegal 0xC3 (.indexedIndirect ptr) s

/-- 0xC7, DCP zeroPage (R308). -/
def execDcpZp (a : Byte) (s : State) : Host.Outcome State Fault Refusal := runIllegal 0xC7 (.zeroPage a) s

/-- 0xCF, DCP absolute (R308). -/
def execDcpAbs (w : Addr) (s : State) : Host.Outcome State Fault Refusal := runIllegal 0xCF (.absolute w) s

/-- 0xD3, DCP indirectIndexed (R308). -/
def execDcpIzy (ptr : Byte) (s : State) : Host.Outcome State Fault Refusal := runIllegal 0xD3 (.indirectIndexed ptr) s

/-- 0xD7, DCP zeroPageX (R308). -/
def execDcpZpx (a : Byte) (s : State) : Host.Outcome State Fault Refusal := runIllegal 0xD7 (.zeroPageX a) s

/-- 0xDB, DCP absoluteY (R308). -/
def execDcpAby (w : Addr) (s : State) : Host.Outcome State Fault Refusal := runIllegal 0xDB (.absoluteY w) s

/-- 0xDF, DCP absoluteX (R308). -/
def execDcpAbx (w : Addr) (s : State) : Host.Outcome State Fault Refusal := runIllegal 0xDF (.absoluteX w) s

/-- 0xE3, ISC indexedIndirect (R309). -/
def execIscIzx (ptr : Byte) (s : State) : Host.Outcome State Fault Refusal := runIllegal 0xE3 (.indexedIndirect ptr) s

/-- 0xE7, ISC zeroPage (R309). -/
def execIscZp (a : Byte) (s : State) : Host.Outcome State Fault Refusal := runIllegal 0xE7 (.zeroPage a) s

/-- 0xEF, ISC absolute (R309). -/
def execIscAbs (w : Addr) (s : State) : Host.Outcome State Fault Refusal := runIllegal 0xEF (.absolute w) s

/-- 0xF3, ISC indirectIndexed (R309). -/
def execIscIzy (ptr : Byte) (s : State) : Host.Outcome State Fault Refusal := runIllegal 0xF3 (.indirectIndexed ptr) s

/-- 0xF7, ISC zeroPageX (R309). -/
def execIscZpx (a : Byte) (s : State) : Host.Outcome State Fault Refusal := runIllegal 0xF7 (.zeroPageX a) s

/-- 0xFB, ISC absoluteY (R309). -/
def execIscAby (w : Addr) (s : State) : Host.Outcome State Fault Refusal := runIllegal 0xFB (.absoluteY w) s

/-- 0xFF, ISC absoluteX (R309). -/
def execIscAbx (w : Addr) (s : State) : Host.Outcome State Fault Refusal := runIllegal 0xFF (.absoluteX w) s

/-- 0x0B, ANC immediate (R310). -/
def execAncImm0B (v : Byte) (s : State) : Host.Outcome State Fault Refusal := runIllegal 0x0B (.immediate v) s

/-- 0x2B, ANC immediate (R310). -/
def execAncImm2B (v : Byte) (s : State) : Host.Outcome State Fault Refusal := runIllegal 0x2B (.immediate v) s

/-- 0x4B, ALR immediate (R311). -/
def execAlr (v : Byte) (s : State) : Host.Outcome State Fault Refusal := runIllegal 0x4B (.immediate v) s

/-- 0x6B, ARR immediate (R312). -/
def execArr (v : Byte) (s : State) : Host.Outcome State Fault Refusal := runIllegal 0x6B (.immediate v) s

/-- 0x8B, XAA immediate (R313). -/
def execXaa (v : Byte) (s : State) : Host.Outcome State Fault Refusal := runIllegal 0x8B (.immediate v) s

/-- 0xCB, AXS immediate (R314). -/
def execAxs (v : Byte) (s : State) : Host.Outcome State Fault Refusal := runIllegal 0xCB (.immediate v) s

/-- 0x93, AHX indirectIndexed (R315). -/
def execAhxIzy (ptr : Byte) (s : State) : Host.Outcome State Fault Refusal := runIllegal 0x93 (.indirectIndexed ptr) s

/-- 0x9F, AHX absoluteY (R315). -/
def execAhxAby (w : Addr) (s : State) : Host.Outcome State Fault Refusal := runIllegal 0x9F (.absoluteY w) s

/-- 0x9B, TAS absoluteY (R316). -/
def execTas (w : Addr) (s : State) : Host.Outcome State Fault Refusal := runIllegal 0x9B (.absoluteY w) s

/-- 0x9C, SHY absoluteX (R317). -/
def execShy (w : Addr) (s : State) : Host.Outcome State Fault Refusal := runIllegal 0x9C (.absoluteX w) s

/-- 0x9E, SHX absoluteY (R318). -/
def execShx (w : Addr) (s : State) : Host.Outcome State Fault Refusal := runIllegal 0x9E (.absoluteY w) s

/-- 0xBB, LAS absoluteY (R319). -/
def execLas (w : Addr) (s : State) : Host.Outcome State Fault Refusal := runIllegal 0xBB (.absoluteY w) s

end Sys2Proof.Machine
end

