-- ==== Sys2Proof/Machine/Dispatch.lean ====
section
/-! DEFINITION. One arm per instruction, each one call of its meaning. `exec i s` runs `i` from a state whose PC is the
opcode address and whose opcode and operand bytes have been fetched (steps 4 to 8 of spec/40_dispatch.md R80). -/

namespace Sys2Proof.Machine

def exec (i : Instr) (s : State) : Host.Outcome State Fault Refusal :=
  match i with
  | .brk => Sys2Proof.Machine.execBrk s
  | .oraIzx ptr => Sys2Proof.Machine.execOraIzx ptr s
  | .kil02 => Sys2Proof.Machine.execKil02 s
  | .sloIzx ptr => Sys2Proof.Machine.execSloIzx ptr s
  | .nopZp04 a => Sys2Proof.Machine.execNopZp04 a s
  | .oraZp a => Sys2Proof.Machine.execOraZp a s
  | .aslZp a => Sys2Proof.Machine.execAslZp a s
  | .sloZp a => Sys2Proof.Machine.execSloZp a s
  | .php => Sys2Proof.Machine.execPhp s
  | .oraImm v => Sys2Proof.Machine.execOraImm v s
  | .aslAcc => Sys2Proof.Machine.execAslAcc s
  | .ancImm0B v => Sys2Proof.Machine.execAncImm0B v s
  | .nopAbs w => Sys2Proof.Machine.execNopAbs w s
  | .oraAbs w => Sys2Proof.Machine.execOraAbs w s
  | .aslAbs w => Sys2Proof.Machine.execAslAbs w s
  | .sloAbs w => Sys2Proof.Machine.execSloAbs w s
  | .bpl off => Sys2Proof.Machine.execBpl off s
  | .oraIzy ptr => Sys2Proof.Machine.execOraIzy ptr s
  | .kil12 => Sys2Proof.Machine.execKil12 s
  | .sloIzy ptr => Sys2Proof.Machine.execSloIzy ptr s
  | .nopZpx14 a => Sys2Proof.Machine.execNopZpx14 a s
  | .oraZpx a => Sys2Proof.Machine.execOraZpx a s
  | .aslZpx a => Sys2Proof.Machine.execAslZpx a s
  | .sloZpx a => Sys2Proof.Machine.execSloZpx a s
  | .clc => Sys2Proof.Machine.execClc s
  | .oraAby w => Sys2Proof.Machine.execOraAby w s
  | .nop1A => Sys2Proof.Machine.execNop1A s
  | .sloAby w => Sys2Proof.Machine.execSloAby w s
  | .nopAbx1C w => Sys2Proof.Machine.execNopAbx1C w s
  | .oraAbx w => Sys2Proof.Machine.execOraAbx w s
  | .aslAbx w => Sys2Proof.Machine.execAslAbx w s
  | .sloAbx w => Sys2Proof.Machine.execSloAbx w s
  | .jsr w => Sys2Proof.Machine.execJsr w s
  | .andIzx ptr => Sys2Proof.Machine.execAndIzx ptr s
  | .kil22 => Sys2Proof.Machine.execKil22 s
  | .rlaIzx ptr => Sys2Proof.Machine.execRlaIzx ptr s
  | .bitZp a => Sys2Proof.Machine.execBitZp a s
  | .andZp a => Sys2Proof.Machine.execAndZp a s
  | .rolZp a => Sys2Proof.Machine.execRolZp a s
  | .rlaZp a => Sys2Proof.Machine.execRlaZp a s
  | .plp => Sys2Proof.Machine.execPlp s
  | .andImm v => Sys2Proof.Machine.execAndImm v s
  | .rolAcc => Sys2Proof.Machine.execRolAcc s
  | .ancImm2B v => Sys2Proof.Machine.execAncImm2B v s
  | .bitAbs w => Sys2Proof.Machine.execBitAbs w s
  | .andAbs w => Sys2Proof.Machine.execAndAbs w s
  | .rolAbs w => Sys2Proof.Machine.execRolAbs w s
  | .rlaAbs w => Sys2Proof.Machine.execRlaAbs w s
  | .bmi off => Sys2Proof.Machine.execBmi off s
  | .andIzy ptr => Sys2Proof.Machine.execAndIzy ptr s
  | .kil32 => Sys2Proof.Machine.execKil32 s
  | .rlaIzy ptr => Sys2Proof.Machine.execRlaIzy ptr s
  | .nopZpx34 a => Sys2Proof.Machine.execNopZpx34 a s
  | .andZpx a => Sys2Proof.Machine.execAndZpx a s
  | .rolZpx a => Sys2Proof.Machine.execRolZpx a s
  | .rlaZpx a => Sys2Proof.Machine.execRlaZpx a s
  | .sec => Sys2Proof.Machine.execSec s
  | .andAby w => Sys2Proof.Machine.execAndAby w s
  | .nop3A => Sys2Proof.Machine.execNop3A s
  | .rlaAby w => Sys2Proof.Machine.execRlaAby w s
  | .nopAbx3C w => Sys2Proof.Machine.execNopAbx3C w s
  | .andAbx w => Sys2Proof.Machine.execAndAbx w s
  | .rolAbx w => Sys2Proof.Machine.execRolAbx w s
  | .rlaAbx w => Sys2Proof.Machine.execRlaAbx w s
  | .rti => Sys2Proof.Machine.execRti s
  | .eorIzx ptr => Sys2Proof.Machine.execEorIzx ptr s
  | .kil42 => Sys2Proof.Machine.execKil42 s
  | .sreIzx ptr => Sys2Proof.Machine.execSreIzx ptr s
  | .nopZp44 a => Sys2Proof.Machine.execNopZp44 a s
  | .eorZp a => Sys2Proof.Machine.execEorZp a s
  | .lsrZp a => Sys2Proof.Machine.execLsrZp a s
  | .sreZp a => Sys2Proof.Machine.execSreZp a s
  | .pha => Sys2Proof.Machine.execPha s
  | .eorImm v => Sys2Proof.Machine.execEorImm v s
  | .lsrAcc => Sys2Proof.Machine.execLsrAcc s
  | .alr v => Sys2Proof.Machine.execAlr v s
  | .jmpAbs w => Sys2Proof.Machine.execJmpAbs w s
  | .eorAbs w => Sys2Proof.Machine.execEorAbs w s
  | .lsrAbs w => Sys2Proof.Machine.execLsrAbs w s
  | .sreAbs w => Sys2Proof.Machine.execSreAbs w s
  | .bvc off => Sys2Proof.Machine.execBvc off s
  | .eorIzy ptr => Sys2Proof.Machine.execEorIzy ptr s
  | .kil52 => Sys2Proof.Machine.execKil52 s
  | .sreIzy ptr => Sys2Proof.Machine.execSreIzy ptr s
  | .nopZpx54 a => Sys2Proof.Machine.execNopZpx54 a s
  | .eorZpx a => Sys2Proof.Machine.execEorZpx a s
  | .lsrZpx a => Sys2Proof.Machine.execLsrZpx a s
  | .sreZpx a => Sys2Proof.Machine.execSreZpx a s
  | .cli => Sys2Proof.Machine.execCli s
  | .eorAby w => Sys2Proof.Machine.execEorAby w s
  | .nop5A => Sys2Proof.Machine.execNop5A s
  | .sreAby w => Sys2Proof.Machine.execSreAby w s
  | .nopAbx5C w => Sys2Proof.Machine.execNopAbx5C w s
  | .eorAbx w => Sys2Proof.Machine.execEorAbx w s
  | .lsrAbx w => Sys2Proof.Machine.execLsrAbx w s
  | .sreAbx w => Sys2Proof.Machine.execSreAbx w s
  | .rts => Sys2Proof.Machine.execRts s
  | .adcIzx ptr => Sys2Proof.Machine.execAdcIzx ptr s
  | .kil62 => Sys2Proof.Machine.execKil62 s
  | .rraIzx ptr => Sys2Proof.Machine.execRraIzx ptr s
  | .nopZp64 a => Sys2Proof.Machine.execNopZp64 a s
  | .adcZp a => Sys2Proof.Machine.execAdcZp a s
  | .rorZp a => Sys2Proof.Machine.execRorZp a s
  | .rraZp a => Sys2Proof.Machine.execRraZp a s
  | .pla => Sys2Proof.Machine.execPla s
  | .adcImm v => Sys2Proof.Machine.execAdcImm v s
  | .rorAcc => Sys2Proof.Machine.execRorAcc s
  | .arr v => Sys2Proof.Machine.execArr v s
  | .jmpInd w => Sys2Proof.Machine.execJmpInd w s
  | .adcAbs w => Sys2Proof.Machine.execAdcAbs w s
  | .rorAbs w => Sys2Proof.Machine.execRorAbs w s
  | .rraAbs w => Sys2Proof.Machine.execRraAbs w s
  | .bvs off => Sys2Proof.Machine.execBvs off s
  | .adcIzy ptr => Sys2Proof.Machine.execAdcIzy ptr s
  | .kil72 => Sys2Proof.Machine.execKil72 s
  | .rraIzy ptr => Sys2Proof.Machine.execRraIzy ptr s
  | .nopZpx74 a => Sys2Proof.Machine.execNopZpx74 a s
  | .adcZpx a => Sys2Proof.Machine.execAdcZpx a s
  | .rorZpx a => Sys2Proof.Machine.execRorZpx a s
  | .rraZpx a => Sys2Proof.Machine.execRraZpx a s
  | .sei => Sys2Proof.Machine.execSei s
  | .adcAby w => Sys2Proof.Machine.execAdcAby w s
  | .nop7A => Sys2Proof.Machine.execNop7A s
  | .rraAby w => Sys2Proof.Machine.execRraAby w s
  | .nopAbx7C w => Sys2Proof.Machine.execNopAbx7C w s
  | .adcAbx w => Sys2Proof.Machine.execAdcAbx w s
  | .rorAbx w => Sys2Proof.Machine.execRorAbx w s
  | .rraAbx w => Sys2Proof.Machine.execRraAbx w s
  | .nopImm80 v => Sys2Proof.Machine.execNopImm80 v s
  | .staIzx ptr => Sys2Proof.Machine.execStaIzx ptr s
  | .nopImm82 v => Sys2Proof.Machine.execNopImm82 v s
  | .saxIzx ptr => Sys2Proof.Machine.execSaxIzx ptr s
  | .styZp a => Sys2Proof.Machine.execStyZp a s
  | .staZp a => Sys2Proof.Machine.execStaZp a s
  | .stxZp a => Sys2Proof.Machine.execStxZp a s
  | .saxZp a => Sys2Proof.Machine.execSaxZp a s
  | .dey => Sys2Proof.Machine.execDey s
  | .nopImm89 v => Sys2Proof.Machine.execNopImm89 v s
  | .txa => Sys2Proof.Machine.execTxa s
  | .xaa v => Sys2Proof.Machine.execXaa v s
  | .styAbs w => Sys2Proof.Machine.execStyAbs w s
  | .staAbs w => Sys2Proof.Machine.execStaAbs w s
  | .stxAbs w => Sys2Proof.Machine.execStxAbs w s
  | .saxAbs w => Sys2Proof.Machine.execSaxAbs w s
  | .bcc off => Sys2Proof.Machine.execBcc off s
  | .staIzy ptr => Sys2Proof.Machine.execStaIzy ptr s
  | .kil92 => Sys2Proof.Machine.execKil92 s
  | .ahxIzy ptr => Sys2Proof.Machine.execAhxIzy ptr s
  | .styZpx a => Sys2Proof.Machine.execStyZpx a s
  | .staZpx a => Sys2Proof.Machine.execStaZpx a s
  | .stxZpy a => Sys2Proof.Machine.execStxZpy a s
  | .saxZpy a => Sys2Proof.Machine.execSaxZpy a s
  | .tya => Sys2Proof.Machine.execTya s
  | .staAby w => Sys2Proof.Machine.execStaAby w s
  | .txs => Sys2Proof.Machine.execTxs s
  | .tas w => Sys2Proof.Machine.execTas w s
  | .shy w => Sys2Proof.Machine.execShy w s
  | .staAbx w => Sys2Proof.Machine.execStaAbx w s
  | .shx w => Sys2Proof.Machine.execShx w s
  | .ahxAby w => Sys2Proof.Machine.execAhxAby w s
  | .ldyImm v => Sys2Proof.Machine.execLdyImm v s
  | .ldaIzx ptr => Sys2Proof.Machine.execLdaIzx ptr s
  | .ldxImm v => Sys2Proof.Machine.execLdxImm v s
  | .laxIzx ptr => Sys2Proof.Machine.execLaxIzx ptr s
  | .ldyZp a => Sys2Proof.Machine.execLdyZp a s
  | .ldaZp a => Sys2Proof.Machine.execLdaZp a s
  | .ldxZp a => Sys2Proof.Machine.execLdxZp a s
  | .laxZp a => Sys2Proof.Machine.execLaxZp a s
  | .tay => Sys2Proof.Machine.execTay s
  | .ldaImm v => Sys2Proof.Machine.execLdaImm v s
  | .tax => Sys2Proof.Machine.execTax s
  | .laxImm v => Sys2Proof.Machine.execLaxImm v s
  | .ldyAbs w => Sys2Proof.Machine.execLdyAbs w s
  | .ldaAbs w => Sys2Proof.Machine.execLdaAbs w s
  | .ldxAbs w => Sys2Proof.Machine.execLdxAbs w s
  | .laxAbs w => Sys2Proof.Machine.execLaxAbs w s
  | .bcs off => Sys2Proof.Machine.execBcs off s
  | .ldaIzy ptr => Sys2Proof.Machine.execLdaIzy ptr s
  | .kilB2 => Sys2Proof.Machine.execKilB2 s
  | .laxIzy ptr => Sys2Proof.Machine.execLaxIzy ptr s
  | .ldyZpx a => Sys2Proof.Machine.execLdyZpx a s
  | .ldaZpx a => Sys2Proof.Machine.execLdaZpx a s
  | .ldxZpy a => Sys2Proof.Machine.execLdxZpy a s
  | .laxZpy a => Sys2Proof.Machine.execLaxZpy a s
  | .clv => Sys2Proof.Machine.execClv s
  | .ldaAby w => Sys2Proof.Machine.execLdaAby w s
  | .tsx => Sys2Proof.Machine.execTsx s
  | .las w => Sys2Proof.Machine.execLas w s
  | .ldyAbx w => Sys2Proof.Machine.execLdyAbx w s
  | .ldaAbx w => Sys2Proof.Machine.execLdaAbx w s
  | .ldxAby w => Sys2Proof.Machine.execLdxAby w s
  | .laxAby w => Sys2Proof.Machine.execLaxAby w s
  | .cpyImm v => Sys2Proof.Machine.execCpyImm v s
  | .cmpIzx ptr => Sys2Proof.Machine.execCmpIzx ptr s
  | .nopImmC2 v => Sys2Proof.Machine.execNopImmC2 v s
  | .dcpIzx ptr => Sys2Proof.Machine.execDcpIzx ptr s
  | .cpyZp a => Sys2Proof.Machine.execCpyZp a s
  | .cmpZp a => Sys2Proof.Machine.execCmpZp a s
  | .decZp a => Sys2Proof.Machine.execDecZp a s
  | .dcpZp a => Sys2Proof.Machine.execDcpZp a s
  | .iny => Sys2Proof.Machine.execIny s
  | .cmpImm v => Sys2Proof.Machine.execCmpImm v s
  | .dex => Sys2Proof.Machine.execDex s
  | .axs v => Sys2Proof.Machine.execAxs v s
  | .cpyAbs w => Sys2Proof.Machine.execCpyAbs w s
  | .cmpAbs w => Sys2Proof.Machine.execCmpAbs w s
  | .decAbs w => Sys2Proof.Machine.execDecAbs w s
  | .dcpAbs w => Sys2Proof.Machine.execDcpAbs w s
  | .bne off => Sys2Proof.Machine.execBne off s
  | .cmpIzy ptr => Sys2Proof.Machine.execCmpIzy ptr s
  | .kilD2 => Sys2Proof.Machine.execKilD2 s
  | .dcpIzy ptr => Sys2Proof.Machine.execDcpIzy ptr s
  | .nopZpxD4 a => Sys2Proof.Machine.execNopZpxD4 a s
  | .cmpZpx a => Sys2Proof.Machine.execCmpZpx a s
  | .decZpx a => Sys2Proof.Machine.execDecZpx a s
  | .dcpZpx a => Sys2Proof.Machine.execDcpZpx a s
  | .cld => Sys2Proof.Machine.execCld s
  | .cmpAby w => Sys2Proof.Machine.execCmpAby w s
  | .nopDA => Sys2Proof.Machine.execNopDA s
  | .dcpAby w => Sys2Proof.Machine.execDcpAby w s
  | .nopAbxDC w => Sys2Proof.Machine.execNopAbxDC w s
  | .cmpAbx w => Sys2Proof.Machine.execCmpAbx w s
  | .decAbx w => Sys2Proof.Machine.execDecAbx w s
  | .dcpAbx w => Sys2Proof.Machine.execDcpAbx w s
  | .cpxImm v => Sys2Proof.Machine.execCpxImm v s
  | .sbcIzx ptr => Sys2Proof.Machine.execSbcIzx ptr s
  | .nopImmE2 v => Sys2Proof.Machine.execNopImmE2 v s
  | .iscIzx ptr => Sys2Proof.Machine.execIscIzx ptr s
  | .cpxZp a => Sys2Proof.Machine.execCpxZp a s
  | .sbcZp a => Sys2Proof.Machine.execSbcZp a s
  | .incZp a => Sys2Proof.Machine.execIncZp a s
  | .iscZp a => Sys2Proof.Machine.execIscZp a s
  | .inx => Sys2Proof.Machine.execInx s
  | .sbcImm v => Sys2Proof.Machine.execSbcImm v s
  | .nop => Sys2Proof.Machine.execNop s
  | .sbcImmEB v => Sys2Proof.Machine.execSbcImmEB v s
  | .cpxAbs w => Sys2Proof.Machine.execCpxAbs w s
  | .sbcAbs w => Sys2Proof.Machine.execSbcAbs w s
  | .incAbs w => Sys2Proof.Machine.execIncAbs w s
  | .iscAbs w => Sys2Proof.Machine.execIscAbs w s
  | .beq off => Sys2Proof.Machine.execBeq off s
  | .sbcIzy ptr => Sys2Proof.Machine.execSbcIzy ptr s
  | .kilF2 => Sys2Proof.Machine.execKilF2 s
  | .iscIzy ptr => Sys2Proof.Machine.execIscIzy ptr s
  | .nopZpxF4 a => Sys2Proof.Machine.execNopZpxF4 a s
  | .sbcZpx a => Sys2Proof.Machine.execSbcZpx a s
  | .incZpx a => Sys2Proof.Machine.execIncZpx a s
  | .iscZpx a => Sys2Proof.Machine.execIscZpx a s
  | .sed => Sys2Proof.Machine.execSed s
  | .sbcAby w => Sys2Proof.Machine.execSbcAby w s
  | .nopFA => Sys2Proof.Machine.execNopFA s
  | .iscAby w => Sys2Proof.Machine.execIscAby w s
  | .nopAbxFC w => Sys2Proof.Machine.execNopAbxFC w s
  | .sbcAbx w => Sys2Proof.Machine.execSbcAbx w s
  | .incAbx w => Sys2Proof.Machine.execIncAbx w s
  | .iscAbx w => Sys2Proof.Machine.execIscAbx w s

end Sys2Proof.Machine
end

