-- ==== Sys2Proof/Machine/Interrupts.lean ====
section
/-! DEFINITION. Steps 1 and 2 of the step loop: the stall step (spec/40_dispatch.md R81) and the service of the interrupt
mailbox (spec/60_exceptions.md R201 to R207). -/

namespace Sys2Proof.Machine

/-- IRQ service (R205): dropped when I = 1, else the entry through 0xFFFE for INTERRUPT_CYCLES. -/
def State.serviceIrq (s : State) : State :=
  if s.i then s else (s.enterTrap s.pc false irqVector).addCycles s.params.interruptCycles

/-- NMI service (R206): the same entry through 0xFFFA, whatever I is. -/
def State.serviceNmi (s : State) : State := (s.enterTrap s.pc false nmiVector).addCycles s.params.interruptCycles

/-- Reset service (R207): PC from 0xFFFC and nothing else, at no cost. -/
def State.serviceReset (s : State) : State := s.loadPc resetVector

/-- `service(m)` (R202). -/
def State.service (m : Option Interrupt) (s : State) : State :=
  match m with
  | none => s
  | some .irq => s.serviceIrq
  | some .nmi => s.serviceNmi
  | some .reset => s.serviceReset

/-- Step 2 of R80: the mailbox is read, cleared and serviced (R201). -/
def State.serviceMailbox (s : State) : State := (s.setMailbox none).service s.mailbox

/-- The stall step (R81). -/
def State.stallStep (s : State) : State := { s with stall := s.stall - 1, cycles := s.cycles + 1 }

end Sys2Proof.Machine
end

