-- ==== Sys2Proof/Machine/Fetch.lean ====
section
/-! DEFINITION. Step 3 of the step loop, with the operand reads of steps 4 and 5 (spec/40_dispatch.md R80, R83, R95): the
instruction's bytes from the bus. Beside it, how an instruction comes to stand where the next step fetches (log entry 10). -/

namespace Sys2Proof.Machine

/-- The bytes of the instruction at PC and the state after the transfers that read them, in address order (R95). The
opcode's mode says how many there are (R72). The byte of an Immediate operand is only looked at here: its transfer is
the handler's (R85), or never happens (R187, R310). -/
def State.fetchBytes (s : State) : List Byte × State :=
  let op := s.readByte s.pc
  match (optable op.1).mode with
  | .implied | .accumulator => ([op.1], op.2)
  | .immediate => ([op.1, op.2.peek (s.pc + 1)], op.2)
  | .zeroPage | .zeroPageX | .zeroPageY | .relative | .indexedIndirect | .indirectIndexed =>
    let b1 := op.2.readByte (s.pc + 1)
    ([op.1, b1.1], b1.2)
  | .absolute | .absoluteX | .absoluteY | .indirect =>
    let b1 := op.2.readByte (s.pc + 1)
    let b2 := b1.2.readByte (s.pc + 2)
    ([op.1, b1.1, b2.1], b2.2)

/-- The instruction a list of fetched bytes is; a byte that was not fetched is not looked at. -/
def instrOfBytes (bytes : List Byte) : Instr := decodeOp (bytes.getD 0 0) (bytes.getD 1 0) (bytes.getD 2 0)

/-- The instruction at PC. -/
def State.fetchInstr (s : State) : Instr := instrOfBytes s.fetchBytes.1

/-- The state `exec` runs the fetched instruction from. -/
def State.fetched (s : State) : State := s.fetchBytes.2

/-! ### Placing an instruction where the next step fetches -/

/-- The state in which a read of `a` gives `v`: into RAM, or into the bytes the mapper is known to return. -/
def State.placeByte (a : Addr) (v : Byte) (s : State) : State :=
  match route a with
  | .ram => { s with ram := s.ram.set (ramIndex a) v }
  | .video | .audio | .unmapped => s
  | .mapper => { s with mapper := { s.mapper with image := s.mapper.image.set a.toNat v } }

/-- The three bytes `bytes` at `p`, `p + 1` and `p + 2`. -/
def State.placeBytes (p : Addr) (bytes : List Byte) (s : State) : State :=
  ((s.placeByte p (bytes.getD 0 0)).placeByte (p + 1) (bytes.getD 1 0)).placeByte (p + 2) (bytes.getD 2 0)

/-- Where code is placed when it cannot stand at PC. -/
def codeBase : Addr := 0x8000

/-- The vector the next step loads PC from, if its mailbox is serviced (R202 to R207). -/
def State.pendingVector (s : State) : Option Addr :=
  match s.mailbox with
  | none => none
  | some .irq => if s.i then none else some irqVector
  | some .nmi => some nmiVector
  | some .reset => some resetVector

/-- No stall, and `bytes` where the next step fetches: at the target of the vector it will load, which is pointed at
`codeBase`; else at PC, or at `codeBase` with PC there when PC is in a peripheral window. -/
def State.placeInstr (bytes : List Byte) (s : State) : State :=
  let s := { s with stall := 0 }
  match s.pendingVector with
  | some vector =>
    ((s.placeByte vector (loByte codeBase)).placeByte (vector + 1) (hiByte codeBase)).placeBytes codeBase bytes
  | none =>
    if isMemory s.pc && isMemory (s.pc + 1) && isMemory (s.pc + 2) then s.placeBytes s.pc bytes
    else (s.setPc codeBase).placeBytes codeBase bytes

end Sys2Proof.Machine
end

