-- ==== Sys2Proof/Machine/Step.lean ====
section
/-! DEFINITION. `step()` (spec/40_dispatch.md R80): a stall step, or mailbox service, fetch and one instruction. -/

namespace Sys2Proof.Machine

/-- One step (R80, R81, R82). A recorded MapperViolation leaves no successor (R222). -/
def step (s : State) : Host.Outcome State Fault Refusal :=
  match s.stuckAt with
  | some address => .fault (.mapperViolation address)
  | none =>
    if 0 < s.stall then .next s.stallStep
    else exec s.serviceMailbox.fetchInstr s.serviceMailbox.fetched

/-- `s` with the instruction word `w` where the next step fetches (log entry 10). -/
def State.withFetchWord (s : State) (nbits w : Nat) : State := s.placeInstr (tableWordBytes nbits w)

end Sys2Proof.Machine
end

