-- ==== Sys2Proof/Machine/HostPort.lean ====
section
/-! DEFINITION. The host control port (spec/00_scope.md R15, spec/60_exceptions.md R200, R226 to R228) and bus reset
(spec/20_memory.md R59). Inputs apply between steps only (R227); the host owes none of them (log entry 8). -/

namespace Sys2Proof.Machine

/-- `requestInterrupt(kind)` (R200): overwrites the one slot. -/
def State.requestInterrupt (kind : Interrupt) (s : State) : State := s.setMailbox (some kind)

/-- `addStall(n)` (R226). -/
def State.addStall (k : Nat) (s : State) : State := { s with stall := s.stall + k }

/-- Bus `reset()` (R59): every RAM byte becomes a fresh draw; no CPU state changes; what it does to PERIPH and MAPPER is
theirs, so each sees it and may answer every later read otherwise (log entry 8). -/
def State.busReset (s : State) : State :=
  { s with ram := [], ramEpoch := s.ramEpoch + 1, periph := .busReset :: s.periph
           mapper := s.mapper.busReset s.params.mapperWrites }

/-- What the host can do between two steps (R228), but for reading `snapshot`. A peripheral's interrupt request or stall
arrives as one of the first two (R203, R227). -/
inductive HostInput where
  | requestInterrupt (kind : Interrupt)
  | addStall (k : Nat)
  | busReset
  deriving DecidableEq, Repr

/-- The state after one input. -/
def State.input (h : HostInput) (s : State) : State :=
  match h with
  | .requestInterrupt kind => s.requestInterrupt kind
  | .addStall k => s.addStall k
  | .busReset => s.busReset

/-- The inputs in order, then one step. -/
def stepWith (inputs : List HostInput) (s : State) : Host.Outcome State Fault Refusal :=
  step (inputs.foldl (fun t h => t.input h) s)

/-- `step()`'s return value (R15, R80), read off the states before and after (log entry 9): the cycles the step consumed,
and the IllegalOpcode it signalled, if any. -/
def stepOutput (s t : State) : Nat × Option FaultRecord := (t.cycles - s.cycles, t.faults[s.faults.length]?)

/-- What `snapshot()` shows (R15, R228); P is `pack(0)` (D43). -/
structure Snapshot where
  a : Byte
  x : Byte
  y : Byte
  sp : Byte
  pc : Addr
  p : Byte
  cycles : Nat
  stall : Nat
  mailbox : Option Interrupt
  deriving DecidableEq, Repr

/-- `snapshot()` (R228): read-only. -/
def State.snapshot (s : State) : Snapshot :=
  { a := s.a, x := s.x, y := s.y, sp := s.sp, pc := s.pc, p := s.pack false, cycles := s.cycles, stall := s.stall
    mailbox := s.mailbox }

end Sys2Proof.Machine
end

