-- ==== Sys2Proof/Safety.lean ====
section
/-! DEFINITION. What claims mean by a good state and a good run: the invariant of the model, "no fault recorded"
(spec/10_state.md R40), and the end of a run (spec/70_reset_and_hazards.md R245). -/

namespace Sys2Proof.Machine

/-- The invariant every step and every host input keeps. -/
structure State.Inv (s : State) : Prop where
  /-- RAM is in canonical form and lists physical indexes only (R41). -/
  ram_wf : s.ram.wf
  ram_within : s.ram.within 0 0x800
  /-- The known mapper bytes are in canonical form and lie in the mapper window (R47, R55). -/
  image_wf : s.mapper.image.wf
  image_within : s.mapper.image.within 0x6000 0x10000
  /-- B is 0 at power-on and nothing writes it (R35, R44). -/
  b_clear : s.b = false
  /-- No MapperViolation is recorded: the routing never causes one (R222). -/
  not_stuck : s.stuckAt = none

/-- "No fault recorded" (R40), the premise D14 asks a claim about a run to take. -/
def State.noFault (s : State) : Bool := s.faults == []

/-- The block as constructed with a cartridge in it: the bytes of its image are known from the start (log entry 10). -/
def State.powerOnWith (w : Draws) (params : Params) (image : Memory) : State :=
  { State.powerOn w params with mapper := { image := image, events := [] } }

/-- The states a run reaches from power-on with any cartridge, and any host inputs before each step (R228, R240). -/
inductive Reachable : State → Prop where
  | powerOn (w : Draws) (params : Params) (image : Memory) (wf : image.wf) (within : image.within 0x6000 0x10000) :
      Reachable (State.powerOnWith w params image)
  | input (h : HostInput) {s : State} : Reachable s → Reachable (s.input h)
  | step {s t : State} : Reachable s → Machine.step s = .next t → Reachable t

/-- PC holds the address of a `JMP` absolute whose operand is that address (R245). DESIGN CHOICE (log entry 13): R245 does
not say which bytes stand at PC where PC or the two bytes after it lie in a peripheral window; they are taken to be the
bytes a fetch at this boundary reads, in order, each read with the PERIPH history the reads before it leave. -/
def State.atSelfLoop (s : State) : Bool := s.fetchInstr == .jmpAbs s.pc

/-- The end of a run (R245): a step boundary at the self-loop, or an IllegalOpcode recorded. -/
def State.runEnded (s : State) : Bool := s.atSelfLoop || !s.noFault

end Sys2Proof.Machine
end

