-- ==== Sys2Proof/Certificates/Slice0/Obligations.lean ====
section
/-! DEFINITION. The statements for the provers. `exec i s` runs `i` from a state whose PC is the opcode address. The
helpers below name, for an instruction and that state, what the rules of spec/ name: PC_after, the effective address, the
operand byte, the state handed to the handler and the state after the operand read. -/

namespace Sys2Proof.Machine

/-- PC_after, `p + length` (R34, R93). -/
def pcAfter (i : Instr) (s : State) : Addr := s.pc + BitVec.ofNat 16 (optable i.opcode).length

/-- The effective address (R83). -/
def eaOf (i : Instr) (s : State) : Addr := (resolve i.operand s.pc s).ea

/-- The state handed to the handler (R80 steps 4 to 7). -/
def ready (i : Instr) (s : State) : State := readyState i.opcode i.operand s

/-- The operand byte `operand(ctx)` (R98). -/
def operandByte (i : Instr) (s : State) : Byte := (readOperand (contextOf i.opcode i.operand s) (ready i s)).1

/-- The state after the operand read (R98). -/
def afterRead (i : Instr) (s : State) : State := (readOperand (contextOf i.opcode i.operand s) (ready i s)).2

/-- The rows the metadata ROM has for a mnemonic, in opcode order: opcode, mode, length, base cycles, page bonus. -/
def romRows (m : Mnemonic) : List (Nat × Mode × Nat × Nat × Nat) :=
  (List.range 256).filterMap fun k =>
    let e := optable (BitVec.ofNat 8 k)
    if e.mnemonic = m then some (k, e.mode, e.length, e.baseCycles, e.pageBonus) else none

/-- The opcodes of one class of R77, in order. -/
def opcodesOf (slot : Slot) : List Nat := (List.range 256).filter fun k => (optable (BitVec.ofNat 8 k)).slot = slot

/-- The four shift mnemonics. -/
def isShift (m : Mnemonic) : Bool := m == .ASL || m == .LSR || m == .ROL || m == .ROR

/-- The forms that store one byte at the effective address. -/
def storesAtEa (i : Instr) : Bool :=
  i.mnemonic == .STA || i.mnemonic == .STX || i.mnemonic == .STY || i.mnemonic == .INC || i.mnemonic == .DEC
    || (isShift i.mnemonic && i.operand != .accumulator)

/-- The forms that push. -/
def pushes (i : Instr) : Bool :=
  i.mnemonic == .PHA || i.mnemonic == .PHP || i.mnemonic == .JSR || i.mnemonic == .BRK

/-- The word at a vector (R67), as the mapper gives it. -/
def vectorWord (vector : Addr) (s : State) : Addr := mkWord (s.mapper.read (vector + 1)) (s.mapper.read vector)

/-- The RAM index of the stack byte `k` below (negative direction) the current SP: `0x0100 | (SP - k)`. -/
def slotBelow (k : Byte) (s : State) : Nat := 0x100 + (s.sp - k).toNat

/-- The RAM index of the stack byte `k` above the current SP: `0x0100 | (SP + k)`. -/
def slotAbove (k : Byte) (s : State) : Nat := 0x100 + (s.sp + k).toNat

end Sys2Proof.Machine

open Sys2Proof Sys2Proof.Machine

/-! ### Encoding -/

/-- Every instruction decodes back from its bytes, whatever follows them (R71 to R73, R76). -/
def Obligations.DecodeOfEncodeIsTheInstruction : Prop :=
  ∀ (i : Instr) (rest : List Byte), decode (encode i ++ rest) = .ok (i, rest)

/-- What the decoder reads is what the encoder writes: no byte it consumes is dropped (R71, R72). -/
def Obligations.EncodeOfDecodeIsTheBytes : Prop :=
  ∀ (bytes rest : List Byte) (i : Instr), decode bytes = .ok (i, rest) → encode i ++ rest = bytes

/-- The decoder rejects exactly the byte strings shorter than the length of their opcode's entry (R72, R77). -/
def Obligations.DecodeRejectsExactlyShortStrings : Prop :=
  ∀ bytes : List Byte, (∃ e, decode bytes = .error e) ↔
    bytes = [] ∨ bytes.length < (optable (bytes.headD 0)).length

/-- Bytes written out from the examples of R78 and of the families decode to what they stand for. -/
def Obligations.WordsOfTheSpecDecode : Prop :=
  decodeTableWord 16 0x10A9 = some (.ldaImm 0x10) ∧ decodeTableWord 16 0x10A5 = some (.ldaZp 0x10)
    ∧ decodeTableWord 16 0x10B5 = some (.ldaZpx 0x10) ∧ decodeTableWord 16 0x10B6 = some (.ldxZpy 0x10)
    ∧ decodeTableWord 16 0x10A1 = some (.ldaIzx 0x10) ∧ decodeTableWord 16 0x10B1 = some (.ldaIzy 0x10)
    ∧ decodeTableWord 24 0x1234AD = some (.ldaAbs 0x1234) ∧ decodeTableWord 24 0x1234BD = some (.ldaAbx 0x1234)
    ∧ decodeTableWord 24 0x1234B9 = some (.ldaAby 0x1234) ∧ decodeTableWord 24 0x12346C = some (.jmpInd 0x1234)
    ∧ decodeTableWord 8 0x0A = some .aslAcc ∧ decodeTableWord 8 0xE8 = some .inx
    ∧ decodeTableWord 16 0xF9D0 = some (.bne 0xF9) ∧ decodeTableWord 8 0x00 = some .brk
    ∧ decodeTableWord 16 0x01EB = some (.sbcImmEB 0x01) ∧ decodeTableWord 8 0x02 = some .kil02

/-- The classes of R77: 77 slots without a handler, 28 alias slots, 151 documented slots. -/
def Obligations.SlotClassesAreThoseListed : Prop :=
  opcodesOf .absent =
      [0x02, 0x03, 0x07, 0x0B, 0x0F, 0x12, 0x13, 0x17, 0x1B, 0x1F, 0x22, 0x23, 0x27, 0x2B, 0x2F, 0x32, 0x33, 0x37, 0x3B,
       0x3F, 0x42, 0x43, 0x47, 0x4B, 0x4F, 0x52, 0x53, 0x57, 0x5B, 0x5F, 0x62, 0x63, 0x67, 0x6B, 0x6F, 0x72, 0x73, 0x77,
       0x7B, 0x7F, 0x83, 0x87, 0x8B, 0x8F, 0x92, 0x93, 0x97, 0x9B, 0x9C, 0x9E, 0x9F, 0xA3, 0xA7, 0xAB, 0xAF, 0xB2, 0xB3,
       0xB7, 0xBB, 0xBF, 0xC3, 0xC7, 0xCB, 0xCF, 0xD2, 0xD3, 0xD7, 0xDB, 0xDF, 0xE3, 0xE7, 0xEF, 0xF2, 0xF3, 0xF7, 0xFB,
       0xFF]
    ∧ opcodesOf .aliased =
      [0x04, 0x0C, 0x14, 0x1A, 0x1C, 0x34, 0x3A, 0x3C, 0x44, 0x54, 0x5A, 0x5C, 0x64, 0x74, 0x7A, 0x7C, 0x80, 0x82, 0x89,
       0xC2, 0xD4, 0xDA, 0xDC, 0xE2, 0xEB, 0xF4, 0xFA, 0xFC]
    ∧ (opcodesOf .absent).length = 77 ∧ (opcodesOf .aliased).length = 28 ∧ (opcodesOf .documented).length = 151

/-! ### The bus -/

/-- The routing table (R47), by the bounds of each range. -/
def Obligations.RoutingFollowsTheTable : Prop :=
  ∀ a : Addr, (route a = .ram ↔ a.toNat < 0x2000) ∧ (route a = .video ↔ 0x2000 ≤ a.toNat ∧ a.toNat < 0x4000)
    ∧ (route a = .audio ↔ 0x4000 ≤ a.toNat ∧ a.toNat < 0x4018)
    ∧ (route a = .unmapped ↔ 0x4018 ≤ a.toNat ∧ a.toNat < 0x6000) ∧ (route a = .mapper ↔ 0x6000 ≤ a.toNat)

/-- RAM (R48, R49): a transfer uses the byte at `a mod 0x0800`, a byte written is read back at every mirror of its address,
every other byte of RAM and of the mapper reads as before, and reading RAM changes nothing. -/
def Obligations.RamReadsBackThroughMirrors : Prop :=
  ∀ (s : State) (a b : Addr) (w : Byte), a.toNat < 0x2000 →
    s.readByte a = (s.ramByte (a.toNat % 0x800), s)
      ∧ s.writeByte a w = { s with ram := s.ram.set (a.toNat % 0x800) w }
      ∧ (b.toNat < 0x2000 → (s.writeByte a w).peek b = if a.toNat % 0x800 = b.toNat % 0x800 then w else s.peek b)
      ∧ (0x6000 ≤ b.toNat → (s.writeByte a w).peek b = s.peek b)

/-- Transfers outside RAM (R50 to R55, R58), in the form log entries 4 to 6 give PERIPH and MAPPER: a peripheral or
unmapped transfer is seen by PERIPH once and changes nothing else, and a read there is a free value; a mapper write
replaces the mapper's state and nothing else; a mapper read changes nothing. -/
def Obligations.TransfersOutsideRamReachTheirOwner : Prop :=
  ∀ (s : State) (a : Addr) (w : Byte),
    (0x2000 ≤ a.toNat → a.toNat < 0x6000 →
      s.writeByte a w = { s with periph := .write a w :: s.periph }
        ∧ s.readByte a = (Config.periphRead s.periph a, { s with periph := .read a :: s.periph }))
      ∧ (0x6000 ≤ a.toNat →
        s.writeByte a w = { s with mapper := s.mapper.write s.params.mapperWrites a w }
          ∧ s.readByte a = (s.mapper.read a, s))

/-- `readWord` and `readWordWrapped` (R56, R57): little-endian, the low byte read first; the high byte is read at `a + 1`,
or at the successor inside the page. That the two agree unless the low byte of `a` is 0xFF is the spec's own inference
from the two rules. -/
def Obligations.WordReadsAreLittleEndianAndWrap : Prop :=
  ∀ (s : State) (a : Addr),
    (s.readWord a).1.toNat = ((s.readByte a).2.peek (a + 1)).toNat * 256 + (s.peek a).toNat
      ∧ (s.readWord a).2 = ((s.readByte a).2.readByte (a + 1)).2
      ∧ (s.readWordWrapped a).1.toNat = ((s.readByte a).2.peek ((a &&& 0xFF00#16) ||| ((a + 1) &&& 0x00FF#16))).toNat * 256
          + (s.peek a).toNat
      ∧ (s.readWordWrapped a).2 = ((s.readByte a).2.readByte ((a &&& 0xFF00#16) ||| ((a + 1) &&& 0x00FF#16))).2
      ∧ ((a &&& 0x00FF#16) ≠ 0x00FF#16 → s.readWordWrapped a = s.readWord a)

/-! ### The stack and the status byte -/

/-- `push` and `pull` (R62, R63, R66): decrement then write, read then increment, SP modulo 256, always in page 0x01. -/
def Obligations.PushAndPullFollowTheDiscipline : Prop :=
  ∀ (s : State) (w : Byte),
    s.push w = { s with sp := s.sp - 1, ram := s.ram.set (0x100 + (s.sp - 1).toNat) w }
      ∧ s.pull = (s.peek (0x0100#16 ||| s.sp.setWidth 16), { s with sp := s.sp + 1 })

/-- `push16` and `pull16` (R64, R65): the high byte is pushed first, so the low byte lies at the lower place; the low byte
is pulled first; and `pull16` undoes `push16` for any SP. -/
def Obligations.PullSixteenUndoesPushSixteen : Prop :=
  ∀ (s : State) (w : Addr),
    s.push16 w = { s with
        sp := s.sp - 2
        ram := (s.ram.set (0x100 + (s.sp - 1).toNat) (hiByte w)).set (0x100 + (s.sp - 2).toNat) (loByte w) }
      ∧ s.pull16 = (mkWord (s.ramByte (slotAbove 1 s)) (s.ramByte (slotAbove 0 s)), { s with sp := s.sp + 2 })
      ∧ (s.push16 w).pull16.1 = w ∧ (s.push16 w).pull16.2.sp = s.sp
      ∧ (s.push16 w).ramByte (slotAbove 0 (s.push16 w)) = loByte w
      ∧ (s.push16 w).ramByte (slotAbove 1 (s.push16 w)) = hiByte w

/-- Packing (R38): the bit positions, bit 5 always 1, bit 4 is B or forced; and `unpack` of a packed byte restores every
stored flag and leaves B alone. -/
def Obligations.StatusByteRoundTrips : Prop :=
  ∀ (s t : State) (brk : Bool) (p : Byte),
    ((s.pack brk).getLsbD 7 = s.n ∧ (s.pack brk).getLsbD 6 = s.v ∧ (s.pack brk).getLsbD 5 = true
      ∧ (s.pack brk).getLsbD 4 = (s.b || brk) ∧ (s.pack brk).getLsbD 3 = s.d ∧ (s.pack brk).getLsbD 2 = s.i
      ∧ (s.pack brk).getLsbD 1 = s.z ∧ (s.pack brk).getLsbD 0 = s.c)
    ∧ t.unpack p = { t with n := p.getLsbD 7, v := p.getLsbD 6, d := p.getLsbD 3, i := p.getLsbD 2, z := p.getLsbD 1
                            c := p.getLsbD 0 }
    ∧ t.unpack (s.pack brk) = { t with n := s.n, v := s.v, d := s.d, i := s.i, z := s.z, c := s.c }

/-- `setZN` and `compare` (R96, R97), the comparison as one of unsigned numbers. -/
def Obligations.FlagHelpersFollowTheirRules : Prop :=
  ∀ (s : State) (p q : Byte),
    s.setZN p = { s with n := p.getLsbD 7, z := decide (p.toNat = 0) }
      ∧ s.compare p q = { s with n := (p - q).getLsbD 7, z := decide (p.toNat = q.toNat), c := decide (q.toNat ≤ p.toNat) }

/-! ### Address resolution and the charge -/

/-- Resolution without a pointer (R84 to R88, R92): the effective address as a number, and that nothing is read. -/
def Obligations.DirectModesResolve : Prop :=
  ∀ (s : State) (p w : Addr) (k : Byte),
    (∀ o ∈ [Operand.implied, .accumulator, .immediate k, .zeroPage k, .zeroPageX k, .zeroPageY k, .relative k, .absolute w,
        .absoluteX w, .absoluteY w], (resolve o p s).state = s)
      ∧ (∀ o ∈ [Operand.implied, .accumulator, .immediate k, .zeroPage k, .zeroPageX k, .zeroPageY k, .relative k,
        .absolute w, .indirect w, .indexedIndirect k], (resolve o p s).crossed = false)
      ∧ (resolve .implied p s).ea = 0 ∧ (resolve .accumulator p s).ea = 0
      ∧ (resolve (.immediate k) p s).ea.toNat = (p.toNat + 1) % 0x10000
      ∧ (resolve (.zeroPage k) p s).ea.toNat = k.toNat
      ∧ (resolve (.zeroPageX k) p s).ea.toNat = (k.toNat + s.x.toNat) % 0x100
      ∧ (resolve (.zeroPageY k) p s).ea.toNat = (k.toNat + s.y.toNat) % 0x100
      ∧ (resolve (.relative k) p s).ea = p + 2 + BitVec.ofInt 16 k.toInt
      ∧ (resolve (.absolute w) p s).ea = w
      ∧ (resolve (.absoluteX w) p s).ea.toNat = (w.toNat + s.x.toNat) % 0x10000
      ∧ (resolve (.absoluteY w) p s).ea.toNat = (w.toNat + s.y.toNat) % 0x10000
      ∧ ((resolve (.absoluteX w) p s).crossed = true ↔ w.toNat / 256 ≠ (w.toNat + s.x.toNat) % 0x10000 / 256)
      ∧ ((resolve (.absoluteY w) p s).crossed = true ↔ w.toNat / 256 ≠ (w.toNat + s.y.toNat) % 0x10000 / 256)

/-- Resolution through a pointer (R89 to R91): Indirect reads its pointer with the page wrap; the two zero-page pointers
are RAM bytes, their high byte wrapping in the zero page. -/
def Obligations.PointerModesResolve : Prop :=
  ∀ (s : State) (p w : Addr) (k : Byte),
    (resolve (.indirect w) p s).ea = (s.readWordWrapped w).1
      ∧ (resolve (.indirect w) p s).state = (s.readWordWrapped w).2
      ∧ (resolve (.indexedIndirect k) p s).ea =
          mkWord (s.ramByte ((k.toNat + s.x.toNat + 1) % 0x100)) (s.ramByte ((k.toNat + s.x.toNat) % 0x100))
      ∧ (resolve (.indirectIndexed k) p s).ea =
          mkWord (s.ramByte ((k.toNat + 1) % 0x100)) (s.ramByte k.toNat) + s.y.setWidth 16
      ∧ ((resolve (.indirectIndexed k) p s).crossed = true ↔
          hiByte (mkWord (s.ramByte ((k.toNat + 1) % 0x100)) (s.ramByte k.toNat))
            ≠ hiByte (resolve (.indirectIndexed k) p s).ea)
      ∧ (resolve (.indexedIndirect k) p s).state = s ∧ (resolve (.indirectIndexed k) p s).state = s

/-- The state handed to the handler (R80 steps 4 to 7, R83, R93, R94): PC advanced by the length, base cycles and the page
bonus charged, and nothing else changed but what PERIPH saw of an Indirect pointer. -/
def Obligations.ReadyStateAdvancesAndCharges : Prop :=
  ∀ (i : Instr) (s : State),
    ready i s = { s with pc := pcAfter i s
                         cycles := s.cycles + (optable i.opcode).baseCycles
                           + (if (resolve i.operand s.pc s).crossed then (optable i.opcode).pageBonus else 0)
                         periph := (ready i s).periph }
      ∧ ((ready i s).periph ≠ s.periph → ∃ w, i = .jmpInd w)

/-- Operands (R85, R98): the accumulator, the immediate byte, or the byte at the effective address; reading one changes at
most what PERIPH has seen. -/
def Obligations.OperandReadsFollowTheMode : Prop :=
  ∀ (i : Instr) (s : State),
    (i.operand = .accumulator → operandByte i s = s.a ∧ afterRead i s = ready i s)
      ∧ (∀ k, i.operand = .immediate k → operandByte i s = k ∧ afterRead i s = ((ready i s).readByte (s.pc + 1)).2)
      ∧ (i.operand ≠ .accumulator → (∀ k, i.operand ≠ .immediate k) →
          operandByte i s = (ready i s).peek (eaOf i s) ∧ afterRead i s = ((ready i s).readByte (eaOf i s)).2)
      ∧ afterRead i s = { ready i s with periph := (afterRead i s).periph }

/-! ### Loads, stores, transfers, stack -/

/-- LDA, LDX, LDY (R100 to R102): every form loads its operand byte into the register and sets N and Z. -/
def Obligations.LoadsReadTheOperandIntoTheRegister : Prop :=
  (∀ (i : Instr) (s : State),
    (i.mnemonic = .LDA → exec i s = .next { afterRead i s with
        a := operandByte i s, n := (operandByte i s).getLsbD 7, z := decide (operandByte i s = 0) })
    ∧ (i.mnemonic = .LDX → exec i s = .next { afterRead i s with
        x := operandByte i s, n := (operandByte i s).getLsbD 7, z := decide (operandByte i s = 0) })
    ∧ (i.mnemonic = .LDY → exec i s = .next { afterRead i s with
        y := operandByte i s, n := (operandByte i s).getLsbD 7, z := decide (operandByte i s = 0) }))
  ∧ romRows .LDA = [(0xA1, .indexedIndirect, 2, 6, 0), (0xA5, .zeroPage, 2, 3, 0), (0xA9, .immediate, 2, 2, 0),
      (0xAD, .absolute, 3, 4, 0), (0xB1, .indirectIndexed, 2, 5, 1), (0xB5, .zeroPageX, 2, 4, 0),
      (0xB9, .absoluteY, 3, 4, 1), (0xBD, .absoluteX, 3, 4, 1)]
  ∧ romRows .LDX = [(0xA2, .immediate, 2, 2, 0), (0xA6, .zeroPage, 2, 3, 0), (0xAE, .absolute, 3, 4, 0),
      (0xB6, .zeroPageY, 2, 4, 0), (0xBE, .absoluteY, 3, 4, 1)]
  ∧ romRows .LDY = [(0xA0, .immediate, 2, 2, 0), (0xA4, .zeroPage, 2, 3, 0), (0xAC, .absolute, 3, 4, 0),
      (0xB4, .zeroPageX, 2, 4, 0), (0xBC, .absoluteX, 3, 4, 1)]

/-- STA, STX, STY (R103 to R105): every form writes the register to the effective address, without reading it, and
changes no register and no flag. -/
def Obligations.StoresWriteTheRegisterAtTheAddress : Prop :=
  (∀ (i : Instr) (s : State),
    (i.mnemonic = .STA → exec i s = .next ((ready i s).writeByte (eaOf i s) s.a))
    ∧ (i.mnemonic = .STX → exec i s = .next ((ready i s).writeByte (eaOf i s) s.x))
    ∧ (i.mnemonic = .STY → exec i s = .next ((ready i s).writeByte (eaOf i s) s.y)))
  ∧ romRows .STA = [(0x81, .indexedIndirect, 2, 6, 0), (0x85, .zeroPage, 2, 3, 0), (0x8D, .absolute, 3, 4, 0),
      (0x91, .indirectIndexed, 2, 6, 0), (0x95, .zeroPageX, 2, 4, 0), (0x99, .absoluteY, 3, 5, 0),
      (0x9D, .absoluteX, 3, 5, 0)]
  ∧ romRows .STX = [(0x86, .zeroPage, 2, 3, 0), (0x8E, .absolute, 3, 4, 0), (0x96, .zeroPageY, 2, 4, 0)]
  ∧ romRows .STY = [(0x84, .zeroPage, 2, 3, 0), (0x8C, .absolute, 3, 4, 0), (0x94, .zeroPageX, 2, 4, 0)]

/-- TAX, TAY, TXA, TYA, TSX, TXS (R106 to R111): opcode, one byte, two cycles, the copy, and N and Z but for TXS. -/
def Obligations.TransfersCopyRegisters : Prop :=
  ∀ s : State,
    exec .tax s = .next { s with x := s.a, n := s.a.getLsbD 7, z := s.a == 0, pc := s.pc + 1, cycles := s.cycles + 2 }
    ∧ exec .tay s = .next { s with y := s.a, n := s.a.getLsbD 7, z := s.a == 0, pc := s.pc + 1, cycles := s.cycles + 2 }
    ∧ exec .txa s = .next { s with a := s.x, n := s.x.getLsbD 7, z := s.x == 0, pc := s.pc + 1, cycles := s.cycles + 2 }
    ∧ exec .tya s = .next { s with a := s.y, n := s.y.getLsbD 7, z := s.y == 0, pc := s.pc + 1, cycles := s.cycles + 2 }
    ∧ exec .tsx s = .next { s with x := s.sp, n := s.sp.getLsbD 7, z := s.sp == 0, pc := s.pc + 1, cycles := s.cycles + 2 }
    ∧ exec .txs s = .next { s with sp := s.x, pc := s.pc + 1, cycles := s.cycles + 2 }
    ∧ encode .tax = [0xAA] ∧ encode .tay = [0xA8] ∧ encode .txa = [0x8A] ∧ encode .tya = [0x98] ∧ encode .tsx = [0xBA]
    ∧ encode .txs = [0x9A]

/-- PHA, PHP, PLA, PLP (R120 to R123): one byte pushed, for PHP the packed status with bits 5 and 4 set, and no flag
changed; one byte pulled from SP, of which PLA sets A, N and Z and PLP all flags but B. -/
def Obligations.StackInstructionsPushAndPullOneByte : Prop :=
  ∀ s : State, let p := s.ramByte (slotAbove 0 s)
    exec .pha s = .next { s with sp := s.sp - 1, ram := s.ram.set (slotBelow 1 s) s.a, pc := s.pc + 1
                                 cycles := s.cycles + 3 }
    ∧ exec .php s = .next { s with sp := s.sp - 1, ram := s.ram.set (slotBelow 1 s) (s.pack true), pc := s.pc + 1
                                   cycles := s.cycles + 3 }
    ∧ exec .pla s = .next { s with a := p, n := p.getLsbD 7, z := p == 0, sp := s.sp + 1, pc := s.pc + 1
                                   cycles := s.cycles + 4 }
    ∧ exec .plp s = .next { s with n := p.getLsbD 7, v := p.getLsbD 6, d := p.getLsbD 3, i := p.getLsbD 2
                                   z := p.getLsbD 1, c := p.getLsbD 0, sp := s.sp + 1, pc := s.pc + 1
                                   cycles := s.cycles + 4 }
    ∧ (s.pack true).getLsbD 5 = true ∧ (s.pack true).getLsbD 4 = true
    ∧ encode .pha = [0x48] ∧ encode .php = [0x08] ∧ encode .pla = [0x68] ∧ encode .plp = [0x28]

/-! ### Arithmetic, logic, compare -/

/-- ADC (R127, R129), for every form: binary where D = 0 or BCD_ENABLED is false; else decimal, on digits up to 9 the
decimal sum modulo 100 with the carry above 99, V and N from the encoded result, and with a digit above 9 whatever
`bcd_invalid` answers. -/
def Obligations.AdcAddsWithCarry : Prop :=
  (∀ (i : Instr) (s : State), i.mnemonic = .ADC →
    let m := operandByte i s
    let digits := decide (s.a.toNat / 16 ≤ 9 ∧ s.a.toNat % 16 ≤ 9 ∧ m.toNat / 16 ≤ 9 ∧ m.toNat % 16 ≤ 9)
    let answers := fun (r : Byte) (carry : Bool) => exec i s = .next { afterRead i s with
      a := r, c := carry, v := ((~~~(s.a ^^^ m) &&& (s.a ^^^ r)) &&& 0x80#8) != 0, n := r.getLsbD 7, z := r == 0 }
    ((s.d && s.params.bcdEnabled) = false →
      answers (BitVec.ofNat 8 (s.a.toNat + m.toNat + s.c.toNat)) (decide (0xFF < s.a.toNat + m.toNat + s.c.toNat)))
    ∧ ((s.d && s.params.bcdEnabled) = true → digits = true →
      let sum := 10 * (s.a.toNat / 16) + s.a.toNat % 16 + (10 * (m.toNat / 16) + m.toNat % 16) + s.c.toNat
      answers (BitVec.ofNat 8 (sum % 100 / 10 * 16 + sum % 100 % 10)) (decide (99 < sum)))
    ∧ ((s.d && s.params.bcdEnabled) = true → digits = false →
      let q := Config.bcdInvalid .adc s.a m s.c
      exec i s = .next { afterRead i s with a := q.a, c := q.c, v := q.v, z := q.z, n := q.n }))
  ∧ romRows .ADC = [(0x61, .indexedIndirect, 2, 6, 0), (0x65, .zeroPage, 2, 3, 0), (0x69, .immediate, 2, 2, 0),
      (0x6D, .absolute, 3, 4, 0), (0x71, .indirectIndexed, 2, 5, 1), (0x75, .zeroPageX, 2, 4, 0),
      (0x79, .absoluteY, 3, 4, 1), (0x7D, .absoluteX, 3, 4, 1)]

/-- SBC (R128, R130), for every form with a handler (the alias 0xEB among them): binary where D = 0 or BCD_ENABLED is
false, in both spellings of the rule, the sum with the complement and the difference with the borrow; else decimal, as
for ADC. -/
def Obligations.SbcSubtractsWithBorrow : Prop :=
  (∀ (i : Instr) (s : State), i.mnemonic = .SBC → handlerPresent i.opcode s.params = true →
    let m := operandByte i s
    let borrow := 1 - s.c.toNat
    let digits := decide (s.a.toNat / 16 ≤ 9 ∧ s.a.toNat % 16 ≤ 9 ∧ m.toNat / 16 ≤ 9 ∧ m.toNat % 16 ≤ 9)
    let answers := fun (r : Byte) (carry : Bool) => exec i s = .next { afterRead i s with
      a := r, c := carry, v := (((s.a ^^^ m) &&& (s.a ^^^ r)) &&& 0x80#8) != 0, n := r.getLsbD 7, z := r == 0 }
    ((s.d && s.params.bcdEnabled) = false →
      let sum := s.a.toNat + (m ^^^ 0xFF#8).toNat + s.c.toNat
      answers (BitVec.ofNat 8 sum) (decide (0xFF < sum))
        ∧ BitVec.ofNat 8 sum = s.a - m - BitVec.ofNat 8 borrow ∧ (0xFF < sum ↔ m.toNat + borrow ≤ s.a.toNat))
    ∧ ((s.d && s.params.bcdEnabled) = true → digits = true →
      let decA := 10 * (s.a.toNat / 16) + s.a.toNat % 16
      let decM := 10 * (m.toNat / 16) + m.toNat % 16
      let d := (100 + decA - decM - borrow) % 100
      answers (BitVec.ofNat 8 (d / 10 * 16 + d % 10)) (decide (decM + borrow ≤ decA)))
    ∧ ((s.d && s.params.bcdEnabled) = true → digits = false →
      let q := Config.bcdInvalid .sbc s.a m s.c
      exec i s = .next { afterRead i s with a := q.a, c := q.c, v := q.v, z := q.z, n := q.n }))
  ∧ romRows .SBC = [(0xE1, .indexedIndirect, 2, 6, 0), (0xE5, .zeroPage, 2, 3, 0), (0xE9, .immediate, 2, 2, 0),
      (0xEB, .immediate, 2, 2, 0), (0xED, .absolute, 3, 4, 0), (0xF1, .indirectIndexed, 2, 5, 1),
      (0xF5, .zeroPageX, 2, 4, 0), (0xF9, .absoluteY, 3, 4, 1), (0xFD, .absoluteX, 3, 4, 1)]

/-- V and C mean what section 1 of 43_arith_logic.md says: V is signed overflow of the exact result, C the unsigned carry
out of ADC or the absence of a borrow in SBC. -/
def Obligations.OverflowIsSignedOverflow : Prop :=
  ∀ (a m : Byte) (c : Bool),
    ((adcBinary a m c).v = true ↔ a.toInt + m.toInt + c.toNat < -128 ∨ 127 < a.toInt + m.toInt + c.toNat)
      ∧ ((sbcBinary a m c).v = true ↔
          a.toInt - m.toInt - (1 - c.toNat : Int) < -128 ∨ 127 < a.toInt - m.toInt - (1 - c.toNat : Int))
      ∧ (adcBinary a m c).a.toNat + 256 * (adcBinary a m c).c.toNat = a.toNat + m.toNat + c.toNat
      ∧ ((sbcBinary a m c).a.toNat : Int) - 256 * (1 - (sbcBinary a m c).c.toNat : Int)
          = (a.toNat : Int) - m.toNat - (1 - c.toNat : Int)

/-- AND, ORA, EOR (R131 to R133), for every form. -/
def Obligations.LogicCombinesBitwise : Prop :=
  (∀ (i : Instr) (s : State), ∀ r : Byte,
    (i.mnemonic = .AND ∧ r = s.a &&& operandByte i s ∨ i.mnemonic = .ORA ∧ r = s.a ||| operandByte i s
      ∨ i.mnemonic = .EOR ∧ r = s.a ^^^ operandByte i s) →
    exec i s = .next { afterRead i s with a := r, n := r.getLsbD 7, z := r == 0 })
  ∧ romRows .AND = [(0x21, .indexedIndirect, 2, 6, 0), (0x25, .zeroPage, 2, 3, 0), (0x29, .immediate, 2, 2, 0),
      (0x2D, .absolute, 3, 4, 0), (0x31, .indirectIndexed, 2, 5, 1), (0x35, .zeroPageX, 2, 4, 0),
      (0x39, .absoluteY, 3, 4, 1), (0x3D, .absoluteX, 3, 4, 1)]
  ∧ romRows .ORA = [(0x01, .indexedIndirect, 2, 6, 0), (0x05, .zeroPage, 2, 3, 0), (0x09, .immediate, 2, 2, 0),
      (0x0D, .absolute, 3, 4, 0), (0x11, .indirectIndexed, 2, 5, 1), (0x15, .zeroPageX, 2, 4, 0),
      (0x19, .absoluteY, 3, 4, 1), (0x1D, .absoluteX, 3, 4, 1)]
  ∧ romRows .EOR = [(0x41, .indexedIndirect, 2, 6, 0), (0x45, .zeroPage, 2, 3, 0), (0x49, .immediate, 2, 2, 0),
      (0x4D, .absolute, 3, 4, 0), (0x51, .indirectIndexed, 2, 5, 1), (0x55, .zeroPageX, 2, 4, 0),
      (0x59, .absoluteY, 3, 4, 1), (0x5D, .absoluteX, 3, 4, 1)]

/-- CMP, CPX, CPY (R134 to R136), for every form: only N, Z and C, as an unsigned comparison. -/
def Obligations.ComparesSetFlagsOnly : Prop :=
  (∀ (i : Instr) (s : State) (r : Byte),
    (i.mnemonic = .CMP ∧ r = s.a ∨ i.mnemonic = .CPX ∧ r = s.x ∨ i.mnemonic = .CPY ∧ r = s.y) →
    let m := operandByte i s
    exec i s = .next { afterRead i s with n := (r - m).getLsbD 7, z := decide (r = m), c := decide (m.toNat ≤ r.toNat) })
  ∧ romRows .CMP = [(0xC1, .indexedIndirect, 2, 6, 0), (0xC5, .zeroPage, 2, 3, 0), (0xC9, .immediate, 2, 2, 0),
      (0xCD, .absolute, 3, 4, 0), (0xD1, .indirectIndexed, 2, 5, 1), (0xD5, .zeroPageX, 2, 4, 0),
      (0xD9, .absoluteY, 3, 4, 1), (0xDD, .absoluteX, 3, 4, 1)]
  ∧ romRows .CPX = [(0xE0, .immediate, 2, 2, 0), (0xE4, .zeroPage, 2, 3, 0), (0xEC, .absolute, 3, 4, 0)]
  ∧ romRows .CPY = [(0xC0, .immediate, 2, 2, 0), (0xC4, .zeroPage, 2, 3, 0), (0xCC, .absolute, 3, 4, 0)]

/-- BIT (R137): Z from `m & A`, N and V from the operand's bits 7 and 6, nothing else. -/
def Obligations.BitTestsTheOperand : Prop :=
  (∀ (i : Instr) (s : State), i.mnemonic = .BIT →
    exec i s = .next { afterRead i s with
      z := decide (operandByte i s &&& s.a = 0), n := (operandByte i s).getLsbD 7, v := (operandByte i s).getLsbD 6 })
  ∧ romRows .BIT = [(0x24, .zeroPage, 2, 3, 0), (0x2C, .absolute, 3, 4, 0)]

/-! ### Increments, decrements, shifts -/

/-- INC and DEC (R140, R141): one read, then one write of the byte plus or minus 1 modulo 256, N and Z; C and V stay. -/
def Obligations.IncDecWriteBackOnce : Prop :=
  (∀ (i : Instr) (s : State) (r : Byte),
    (i.mnemonic = .INC ∧ r.toNat = (operandByte i s).toNat.succ % 256
      ∨ i.mnemonic = .DEC ∧ r.toNat = ((operandByte i s).toNat + 255) % 256) →
    exec i s = .next { (afterRead i s).writeByte (eaOf i s) r with n := r.getLsbD 7, z := r == 0 })
  ∧ romRows .INC = [(0xE6, .zeroPage, 2, 5, 0), (0xEE, .absolute, 3, 6, 0), (0xF6, .zeroPageX, 2, 6, 0),
      (0xFE, .absoluteX, 3, 7, 0)]
  ∧ romRows .DEC = [(0xC6, .zeroPage, 2, 5, 0), (0xCE, .absolute, 3, 6, 0), (0xD6, .zeroPageX, 2, 6, 0),
      (0xDE, .absoluteX, 3, 7, 0)]

/-- INX, INY, DEX, DEY (R142 to R145). -/
def Obligations.IndexRegistersCount : Prop :=
  ∀ s : State,
    exec .inx s = .next { s with x := s.x + 1, n := (s.x + 1).getLsbD 7, z := s.x + 1 == 0, pc := s.pc + 1
                                 cycles := s.cycles + 2 }
    ∧ exec .iny s = .next { s with y := s.y + 1, n := (s.y + 1).getLsbD 7, z := s.y + 1 == 0, pc := s.pc + 1
                                   cycles := s.cycles + 2 }
    ∧ exec .dex s = .next { s with x := s.x - 1, n := (s.x - 1).getLsbD 7, z := s.x - 1 == 0, pc := s.pc + 1
                                   cycles := s.cycles + 2 }
    ∧ exec .dey s = .next { s with y := s.y - 1, n := (s.y - 1).getLsbD 7, z := s.y - 1 == 0, pc := s.pc + 1
                                   cycles := s.cycles + 2 }
    ∧ encode .inx = [0xE8] ∧ encode .iny = [0xC8] ∧ encode .dex = [0xCA] ∧ encode .dey = [0x88]

/-- ASL, LSR, ROL, ROR (R150 to R153), the accumulator form and every memory form: `v` the operand, `r` the result as a
number, `out` the bit shifted out. -/
def Obligations.ShiftsMoveOneBitThroughCarry : Prop :=
  (∀ (i : Instr) (s : State) (r : Byte) (out : Bool),
    let v := operandByte i s
    (i.mnemonic = .ASL ∧ r.toNat = 2 * v.toNat % 256 ∧ out = v.getLsbD 7
      ∨ i.mnemonic = .LSR ∧ r.toNat = v.toNat / 2 ∧ out = v.getLsbD 0
      ∨ i.mnemonic = .ROL ∧ r.toNat = (2 * v.toNat + s.c.toNat) % 256 ∧ out = v.getLsbD 7
      ∨ i.mnemonic = .ROR ∧ r.toNat = v.toNat / 2 + 128 * s.c.toNat ∧ out = v.getLsbD 0) →
    (i.operand = .accumulator → exec i s = .next { ready i s with a := r, c := out, n := r.getLsbD 7, z := r == 0 })
    ∧ (i.operand ≠ .accumulator →
        exec i s = .next { (afterRead i s).writeByte (eaOf i s) r with c := out, n := r.getLsbD 7, z := r == 0 }))
  ∧ romRows .ASL = [(0x06, .zeroPage, 2, 5, 0), (0x0A, .accumulator, 1, 2, 0), (0x0E, .absolute, 3, 6, 0),
      (0x16, .zeroPageX, 2, 6, 0), (0x1E, .absoluteX, 3, 7, 0)]
  ∧ romRows .LSR = [(0x46, .zeroPage, 2, 5, 0), (0x4A, .accumulator, 1, 2, 0), (0x4E, .absolute, 3, 6, 0),
      (0x56, .zeroPageX, 2, 6, 0), (0x5E, .absoluteX, 3, 7, 0)]
  ∧ romRows .ROL = [(0x26, .zeroPage, 2, 5, 0), (0x2A, .accumulator, 1, 2, 0), (0x2E, .absolute, 3, 6, 0),
      (0x36, .zeroPageX, 2, 6, 0), (0x3E, .absoluteX, 3, 7, 0)]
  ∧ romRows .ROR = [(0x66, .zeroPage, 2, 5, 0), (0x6A, .accumulator, 1, 2, 0), (0x6E, .absolute, 3, 6, 0),
      (0x76, .zeroPageX, 2, 6, 0), (0x7E, .absoluteX, 3, 7, 0)]

/-! ### Control transfer -/

/-- JMP (R160): PC becomes the operand word, or the word read with the page wrap from the operand's address. -/
def Obligations.JmpLoadsTheTarget : Prop :=
  ∀ (s : State) (w : Addr),
    exec (.jmpAbs w) s = .next { s with pc := w, cycles := s.cycles + 3 }
    ∧ exec (.jmpInd w) s = .next { s with
        pc := mkWord ((s.touch w).peek ((w &&& 0xFF00#16) ||| ((w + 1) &&& 0x00FF#16))) (s.peek w)
        cycles := s.cycles + 5
        periph := ((s.touch w).touch ((w &&& 0xFF00#16) ||| ((w + 1) &&& 0x00FF#16))).periph }
    ∧ encode (.jmpAbs w) = [0x4C, loByte w, hiByte w] ∧ encode (.jmpInd w) = [0x6C, loByte w, hiByte w]

/-- JSR and RTS (R161, R162): JSR pushes the address of its last byte, high byte first; RTS pulls it and adds 1. -/
def Obligations.JsrPushesAndRtsReturns : Prop :=
  ∀ (s : State) (w : Addr),
    exec (.jsr w) s = .next { s with
        sp := s.sp - 2, pc := w, cycles := s.cycles + 6
        ram := (s.ram.set (slotBelow 1 s) (hiByte (s.pc + 2))).set (slotBelow 2 s) (loByte (s.pc + 2)) }
    ∧ exec .rts s = .next { s with
        sp := s.sp + 2, pc := mkWord (s.ramByte (slotAbove 1 s)) (s.ramByte (slotAbove 0 s)) + 1, cycles := s.cycles + 6 }
    ∧ encode (.jsr w) = [0x20, loByte w, hiByte w] ∧ encode .rts = [0x60]

/-- RTI (R163, R213): the flags from the byte at SP but for B, then PC from the next two, with no increment. -/
def Obligations.RtiRestoresFlagsAndPc : Prop :=
  ∀ s : State, let p := s.ramByte (slotAbove 0 s)
    exec .rti s = .next { s with
      sp := s.sp + 3, n := p.getLsbD 7, v := p.getLsbD 6, d := p.getLsbD 3, i := p.getLsbD 2, z := p.getLsbD 1
      c := p.getLsbD 0, pc := mkWord (s.ramByte (slotAbove 2 s)) (s.ramByte (slotAbove 1 s)), cycles := s.cycles + 6 }
    ∧ encode .rti = [0x40]

/-- BRK (R164): pushes `p + 2` and the status with B = 1, sets I, takes PC from 0xFFFE, for the table's 7 cycles. -/
def Obligations.BrkEntersThroughTheIrqVector : Prop :=
  ∀ s : State,
    exec .brk s = .next { s with
      sp := s.sp - 3, i := true, pc := vectorWord 0xFFFE s, cycles := s.cycles + 7
      ram := ((s.ram.set (slotBelow 1 s) (hiByte (s.pc + 2))).set (slotBelow 2 s) (loByte (s.pc + 2))).set
        (slotBelow 3 s) (s.pack true) }
    ∧ (s.pack true).getLsbD 4 = true ∧ (s.pack true).getLsbD 5 = true ∧ encode .brk = [0x00]

/-- The branches (R165, R166, R168 to R176): each tests its flag; taken, PC is the target for 3 cycles, or 4 when the
target is on another page than the instruction after the branch; not taken, 2 cycles. -/
def Obligations.BranchesTestOneFlag : Prop :=
  (∀ (i : Instr) (s : State) (off : Byte) (taken : Bool),
    (i = .bpl off ∧ taken = !s.n ∨ i = .bmi off ∧ taken = s.n ∨ i = .bvc off ∧ taken = !s.v ∨ i = .bvs off ∧ taken = s.v
      ∨ i = .bcc off ∧ taken = !s.c ∨ i = .bcs off ∧ taken = s.c ∨ i = .bne off ∧ taken = !s.z
      ∨ i = .beq off ∧ taken = s.z) →
    let target := s.pc + 2 + BitVec.ofInt 16 off.toInt
    (taken = false → exec i s = .next { s with pc := s.pc + 2, cycles := s.cycles + 2 })
    ∧ (taken = true → exec i s = .next { s with
        pc := target, cycles := s.cycles + if hiByte (s.pc + 2) = hiByte target then 3 else 4 }))
  ∧ ∀ off : Byte, encode (.bpl off) = [0x10, off] ∧ encode (.bmi off) = [0x30, off] ∧ encode (.bvc off) = [0x50, off]
    ∧ encode (.bvs off) = [0x70, off] ∧ encode (.bcc off) = [0x90, off] ∧ encode (.bcs off) = [0xB0, off]
    ∧ encode (.bne off) = [0xD0, off] ∧ encode (.beq off) = [0xF0, off]

/-! ### Flag instructions, NOP, slots without a handler -/

/-- CLC, CLD, CLI, CLV, SEC, SED, SEI (R180 to R186): one flag, two cycles, nothing else. -/
def Obligations.FlagInstructionsWriteOneFlag : Prop :=
  ∀ s : State,
    exec .clc s = .next { s with c := false, pc := s.pc + 1, cycles := s.cycles + 2 }
    ∧ exec .cld s = .next { s with d := false, pc := s.pc + 1, cycles := s.cycles + 2 }
    ∧ exec .cli s = .next { s with i := false, pc := s.pc + 1, cycles := s.cycles + 2 }
    ∧ exec .clv s = .next { s with v := false, pc := s.pc + 1, cycles := s.cycles + 2 }
    ∧ exec .sec s = .next { s with c := true, pc := s.pc + 1, cycles := s.cycles + 2 }
    ∧ exec .sed s = .next { s with d := true, pc := s.pc + 1, cycles := s.cycles + 2 }
    ∧ exec .sei s = .next { s with i := true, pc := s.pc + 1, cycles := s.cycles + 2 }
    ∧ encode .clc = [0x18] ∧ encode .cld = [0xD8] ∧ encode .cli = [0x58] ∧ encode .clv = [0xB8] ∧ encode .sec = [0x38]
    ∧ encode .sed = [0xF8] ∧ encode .sei = [0x78]

/-- NOP (R187, R320): every slot with a handler only advances PC and charges the table, page bonus included. -/
def Obligations.NopOnlyAdvances : Prop :=
  (∀ (i : Instr) (s : State), i.mnemonic = .NOP → handlerPresent i.opcode s.params = true →
    exec i s = .next { s with
      pc := pcAfter i s
      cycles := s.cycles + (optable i.opcode).baseCycles
        + if (resolve i.operand s.pc s).crossed then (optable i.opcode).pageBonus else 0 })
  ∧ romRows .NOP = [(0x04, .zeroPage, 2, 3, 0), (0x0C, .absolute, 3, 4, 0), (0x14, .zeroPageX, 2, 4, 0),
      (0x1A, .implied, 1, 2, 0), (0x1C, .absoluteX, 3, 4, 1), (0x34, .zeroPageX, 2, 4, 0), (0x3A, .implied, 1, 2, 0),
      (0x3C, .absoluteX, 3, 4, 1), (0x44, .zeroPage, 2, 3, 0), (0x54, .zeroPageX, 2, 4, 0), (0x5A, .implied, 1, 2, 0),
      (0x5C, .absoluteX, 3, 4, 1), (0x64, .zeroPage, 2, 3, 0), (0x74, .zeroPageX, 2, 4, 0), (0x7A, .implied, 1, 2, 0),
      (0x7C, .absoluteX, 3, 4, 1), (0x80, .immediate, 2, 2, 0), (0x82, .immediate, 2, 2, 0), (0x89, .immediate, 2, 2, 0),
      (0xC2, .immediate, 2, 2, 0), (0xD4, .zeroPageX, 2, 4, 0), (0xDA, .implied, 1, 2, 0), (0xDC, .absoluteX, 3, 4, 1),
      (0xE2, .immediate, 2, 2, 0), (0xEA, .implied, 1, 2, 0), (0xF4, .zeroPageX, 2, 4, 0), (0xFA, .implied, 1, 2, 0),
      (0xFC, .absoluteX, 3, 4, 1)]

/-- Slots without a handler (R300, R301 to R319; R321 for the alias slots): PC and cycles advance by the table,
IllegalOpcode is recorded and signalled with its opcode and address, and nothing else changes. The 19 undocumented
mnemonics never have a handler; the 56 documented ones lack one only in an alias slot with UNDOC_ALIASES false. -/
def Obligations.OpcodesWithoutHandlerRecordIllegal : Prop :=
  ∀ (i : Instr) (s : State),
    let charge := (optable i.opcode).baseCycles
      + if (resolve i.operand s.pc s).crossed then (optable i.opcode).pageBonus else 0
    let t : State := { s with
      pc := pcAfter i s, cycles := s.cycles + charge, faults := s.faults ++ [.illegalOpcode i.opcode s.pc] }
    (handlerPresent i.opcode s.params = false →
      exec i s = .next t ∧ stepOutput s t = (charge, some (.illegalOpcode i.opcode s.pc)))
    ∧ (i.mnemonic ∈ [Mnemonic.KIL, .SLO, .RLA, .SRE, .RRA, .SAX, .LAX, .DCP, .ISC, .ANC, .ALR, .ARR, .XAA, .AXS, .AHX,
          .TAS, .SHY, .SHX, .LAS] ↔ handlerPresent i.opcode { s.params with undocAliases := true } = false)
    ∧ (handlerPresent i.opcode s.params = false → i.mnemonic = .NOP ∨ i.mnemonic = .SBC →
        s.params.undocAliases = false ∧ i ≠ .nop)

/-! ### Frames: what each instruction leaves unchanged -/

/-- The writers of A, X, Y, SP and PC (R31 to R34): no other instruction changes A, X, Y or SP, and every instruction but a
control transfer leaves PC at the opcode address plus its length. -/
def Obligations.OnlyListedInstructionsWriteRegisters : Prop :=
  ∀ (i : Instr) (s t : State), exec i s = .next t →
    (i.mnemonic ∉ [Mnemonic.LDA, .PLA, .TXA, .TYA, .ADC, .SBC, .AND, .ORA, .EOR] →
        ¬(isShift i.mnemonic = true ∧ i.operand = .accumulator) → t.a = s.a)
    ∧ (i.mnemonic ∉ [Mnemonic.LDX, .TAX, .TSX, .INX, .DEX] → t.x = s.x)
    ∧ (i.mnemonic ∉ [Mnemonic.LDY, .TAY, .INY, .DEY] → t.y = s.y)
    ∧ (i.mnemonic ∉ [Mnemonic.TXS, .PHA, .PHP, .PLA, .PLP, .JSR, .RTS, .RTI, .BRK] → t.sp = s.sp)
    ∧ (i.mnemonic ∉ [Mnemonic.JMP, .JSR, .RTS, .RTI, .BRK, .BCC, .BCS, .BEQ, .BMI, .BNE, .BPL, .BVC, .BVS] →
        t.pc = pcAfter i s)

/-- The writers of the flags (R35): no other instruction changes them, and none writes B. -/
def Obligations.OnlyListedInstructionsWriteFlags : Prop :=
  ∀ (i : Instr) (s t : State), exec i s = .next t →
    (i.mnemonic ∉ [Mnemonic.ADC, .SBC, .CMP, .CPX, .CPY, .ASL, .LSR, .ROL, .ROR, .CLC, .SEC, .PLP, .RTI] → t.c = s.c)
    ∧ (i.mnemonic ∉ [Mnemonic.ADC, .SBC, .AND, .ORA, .EOR, .BIT, .CMP, .CPX, .CPY, .INC, .DEC, .INX, .INY, .DEX, .DEY,
          .ASL, .LSR, .ROL, .ROR, .LDA, .LDX, .LDY, .TAX, .TAY, .TXA, .TYA, .TSX, .PLA, .PLP, .RTI] →
        t.z = s.z ∧ t.n = s.n)
    ∧ (i.mnemonic ∉ [Mnemonic.SEI, .CLI, .PLP, .RTI, .BRK] → t.i = s.i)
    ∧ (i.mnemonic ∉ [Mnemonic.SED, .CLD, .PLP, .RTI] → t.d = s.d)
    ∧ t.b = s.b
    ∧ (i.mnemonic ∉ [Mnemonic.ADC, .SBC, .BIT, .CLV, .PLP, .RTI] → t.v = s.v)

/-- What no instruction touches: the mailbox, the stall counter, the parameters and the RAM epoch; the fault list only
grows, by one IllegalOpcode exactly when the slot has no handler; `cycles` grows by at least 2. -/
def Obligations.InstructionsKeepTheBookkeeping : Prop :=
  ∀ (i : Instr) (s t : State), exec i s = .next t →
    t.mailbox = s.mailbox ∧ t.stall = s.stall ∧ t.params = s.params ∧ t.ramEpoch = s.ramEpoch
      ∧ t.faults = s.faults ++ (if handlerPresent i.opcode s.params then [] else [.illegalOpcode i.opcode s.pc])
      ∧ s.cycles + 2 ≤ t.cycles

/-- A form that stores nothing leaves every byte of memory alone: RAM, the mapper, and so what any RAM or mapper address
reads as. -/
def Obligations.NonStoringFormsKeepMemory : Prop :=
  ∀ (i : Instr) (s t : State), storesAtEa i = false → pushes i = false → exec i s = .next t →
    t.ram = s.ram ∧ t.mapper = s.mapper ∧ ∀ a : Addr, isMemory a = true → t.peek a = s.peek a

/-- A form that stores at the effective address changes that byte only: with a RAM address, every other RAM byte and the
mapper read as before; with a mapper address, RAM is unchanged and the mapper has taken the one write, so that under a
mapper of plain ROM or plain RAM every other byte reads as before; with any other address, no memory byte changes. -/
def Obligations.StoringFormsChangeOneByte : Prop :=
  ∀ (i : Instr) (s t : State) (a : Addr), storesAtEa i = true → exec i s = .next t → eaOf i s = a →
    (a.toNat < 0x2000 → ∀ b : Addr, isMemory b = true → ¬(b.toNat < 0x2000 ∧ b.toNat % 0x800 = a.toNat % 0x800) →
        t.peek b = s.peek b)
    ∧ (a.toNat < 0x2000 → t.mapper = s.mapper)
    ∧ (0x6000 ≤ a.toNat → t.ram = s.ram ∧ (∃ w, t.mapper = s.mapper.write s.params.mapperWrites a w)
        ∧ (s.params.mapperWrites ≠ .anyEffect → ∀ b : Addr, isMemory b = true → b ≠ a → t.peek b = s.peek b))
    ∧ (0x2000 ≤ a.toNat → a.toNat < 0x6000 →
        t.ram = s.ram ∧ t.mapper = s.mapper ∧ ∀ b : Addr, isMemory b = true → t.peek b = s.peek b)

/-- A form that pushes changes its stack bytes only: one for PHA and PHP, two for JSR, three for BRK, counted down from SP
within page 0x01 (and their mirrors, which are the same bytes). -/
def Obligations.PushingFormsChangeStackBytesOnly : Prop :=
  ∀ (i : Instr) (s t : State), pushes i = true → exec i s = .next t →
    t.mapper = s.mapper ∧ ∀ b : Addr, isMemory b = true →
      (b.toNat < 0x2000 → b.toNat % 0x800 ≠ slotBelow 1 s
        ∧ (i.mnemonic = .JSR ∨ i.mnemonic = .BRK → b.toNat % 0x800 ≠ slotBelow 2 s)
        ∧ (i.mnemonic = .BRK → b.toNat % 0x800 ≠ slotBelow 3 s)) →
      t.peek b = s.peek b

/-! ### Round trips -/

/-- What is pushed comes back: RTS returns after JSR, RTI after BRK restores PC `p + 2` and the flags, PLP undoes PHP and
PLA undoes PHA (R121, R123, R161 to R164, R213). -/
def Obligations.ReturnsUndoTheirCalls : Prop :=
  ∀ (s t u : State) (w : Addr),
    (exec (.jsr w) s = .next t → exec .rts t = .next u → t.pc = w ∧ u.pc = s.pc + 3 ∧ u.sp = s.sp)
    ∧ (exec .brk s = .next t → exec .rti t = .next u →
        u.pc = s.pc + 2 ∧ u.sp = s.sp ∧ u.n = s.n ∧ u.v = s.v ∧ u.d = s.d ∧ u.i = s.i ∧ u.z = s.z ∧ u.c = s.c ∧ u.b = s.b)
    ∧ (exec .php s = .next t → exec .plp t = .next u →
        u.sp = s.sp ∧ u.n = s.n ∧ u.v = s.v ∧ u.d = s.d ∧ u.i = s.i ∧ u.z = s.z ∧ u.c = s.c ∧ u.b = s.b)
    ∧ (exec .pha s = .next t → exec .pla t = .next u → u.sp = s.sp ∧ u.a = s.a)

/-! ### The step -/

/-- Stall steps and the mailbox (R81, R201): a stall step only takes one from the stall counter and adds one cycle,
whatever the mailbox holds, and returns (1, None); every other step that completes leaves the mailbox empty. -/
def Obligations.StallStepsComeFirstAndOthersEmptyTheMailbox : Prop :=
  ∀ s t : State,
    (s.stuckAt = none → 0 < s.stall →
      let u : State := { s with stall := s.stall - 1, cycles := s.cycles + 1 }
      step s = .next u ∧ stepOutput s u = (1, none))
    ∧ (step s = .next t → s.stall = 0 → t.mailbox = none ∧ t.stall = 0)

/-- A step runs the decoded instruction (R80, R95). With nothing pending: the bytes read from PC on, in order, decode to
the instruction `exec` runs, from the state after those reads. Where PC and the two bytes after it are memory, those are
the bytes standing there and the reads change nothing. -/
def Obligations.StepRunsTheDecodedInstruction : Prop :=
  ∀ (s : State) (i : Instr) (rest : List Byte), s.stuckAt = none → s.stall = 0 → s.mailbox = none →
    (decode s.fetchBytes.1 = .ok (i, rest) → step s = exec i s.fetched)
    ∧ (isMemory s.pc = true → isMemory (s.pc + 1) = true → isMemory (s.pc + 2) = true →
        decode [s.peek s.pc, s.peek (s.pc + 1), s.peek (s.pc + 2)] = .ok (i, rest) → step s = exec i s)

/-- The fetch (R72, R83, R85, R95): the opcode byte, then as many operand bytes as the mode has, each read once and in
order; an immediate byte is looked at but its transfer is left to the handler; and what is fetched always decodes. -/
def Obligations.FetchReadsTheInstructionsBytes : Prop :=
  ∀ s : State,
    let op := s.peek s.pc
    let s1 := s.touch s.pc
    let s2 := s1.touch (s.pc + 1)
    (∃ i, decode s.fetchBytes.1 = .ok (i, []))
    ∧ ((optable op).length = 1 → s.fetchBytes = ([op], s1))
    ∧ ((optable op).mode = .immediate → s.fetchBytes = ([op, s1.peek (s.pc + 1)], s1))
    ∧ ((optable op).length = 2 → (optable op).mode ≠ .immediate → s.fetchBytes = ([op, s1.peek (s.pc + 1)], s2))
    ∧ ((optable op).length = 3 →
        s.fetchBytes = ([op, s1.peek (s.pc + 1), s2.peek (s.pc + 2)], s2.touch (s.pc + 2)))

/-- IRQ and NMI (R205, R206, R201, R82): the step pushes PC and the status with bit 4 = B, sets I, takes PC from the
vector for INTERRUPT_CYCLES, and runs the instruction there. NMI does so whatever I is; an IRQ found while I = 1 is
dropped and the instruction at PC runs. -/
def Obligations.InterruptsEnterThroughTheirVectors : Prop :=
  ∀ s : State, s.stuckAt = none → s.stall = 0 →
    let entry := fun vector : Addr => ({ s with
      mailbox := none, sp := s.sp - 3, i := true, pc := vectorWord vector s
      cycles := s.cycles + s.params.interruptCycles
      ram := ((s.ram.set (slotBelow 1 s) (hiByte s.pc)).set (slotBelow 2 s) (loByte s.pc)).set (slotBelow 3 s)
        (s.pack false) } : State)
    (s.mailbox = some .irq → s.i = false → step s = exec (entry 0xFFFE).fetchInstr (entry 0xFFFE).fetched)
    ∧ (s.mailbox = some .irq → s.i = true →
        step s = exec (s.setMailbox none).fetchInstr (s.setMailbox none).fetched)
    ∧ (s.mailbox = some .nmi → step s = exec (entry 0xFFFA).fetchInstr (entry 0xFFFA).fetched)

/-- Reset (R207, R241): PC from 0xFFFC and nothing else, then the instruction there, in one step. -/
def Obligations.ResetChangesPcOnly : Prop :=
  ∀ s : State, s.stuckAt = none → s.stall = 0 → s.mailbox = some .reset →
    let e : State := { s with mailbox := none, pc := vectorWord 0xFFFC s }
    step s = exec e.fetchInstr e.fetched

/-- A step stops only in the stuck state of R222: in any other it completes, whatever the bytes, operands and parameters. -/
def Obligations.StepCompletesUnlessStuck : Prop :=
  ∀ s : State, (s.stuckAt = none ∧ ∃ t, step s = .next t)
    ∨ ∃ a, s.stuckAt = some a ∧ step s = .fault (.mapperViolation a)

/-- The mapper adaptor's range check (R222), for a read and for a write: with an address below 0x6000 it returns no value and
writes nothing; the violation is recorded, and from then on no step has a successor. From 0x6000 on the mapper answers.
The bus goes through the adaptor, and no bus transfer, at any address, records a violation. -/
def Obligations.MapperViolationLeavesTheMachineStuck : Prop :=
  ∀ (s : State) (a : Addr) (w : Byte),
    (a.toNat < 0x6000 → ∃ t : State, s.mapperPortRead a = .error t ∧ s.mapperPortWrite a w = .error t
      ∧ t = { s with faults := s.faults ++ [.mapperViolation a] }
      ∧ ∃ b, step t = .fault (.mapperViolation b) ∧ (s.stuckAt = none → b = a))
    ∧ (0x6000 ≤ a.toNat → s.mapperPortRead a = .ok (s.mapper.read a)
      ∧ s.mapperPortWrite a w = .ok { s with mapper := s.mapper.write s.params.mapperWrites a w }
      ∧ (∀ v, s.mapperPortRead a = .ok v → s.readByte a = (v, s))
      ∧ ∀ t, s.mapperPortWrite a w = .ok t → s.writeByte a w = t)
    ∧ (s.readByte a).2.faults = s.faults ∧ (s.writeByte a w).faults = s.faults

/-- A step's return value (R261, with INTERRUPT_CYCLES = 7): a stall step returns 1; every entry's base cycles are at
least 2, and 2 is the smallest and 15 the largest return of any other step, both of which occur. -/
def Obligations.StepCostsOneToFifteenCycles : Prop :=
  (∀ s t : State, s.params.interruptCycles = 7 → step s = .next t →
    (0 < s.stall → (stepOutput s t).1 = 1) ∧ (s.stall = 0 → 2 ≤ (stepOutput s t).1) ∧ (stepOutput s t).1 ≤ 15
      ∧ t.cycles = s.cycles + (stepOutput s t).1)
  ∧ (∀ op : Byte, 2 ≤ (optable op).baseCycles)
  ∧ (∃ s t : State, s.stall = 0 ∧ step s = .next t ∧ (stepOutput s t).1 = 2)
  ∧ ∃ s t : State, s.params.interruptCycles = 7 ∧ step s = .next t ∧ (stepOutput s t).1 = 15

/-- No transition other than `cycles` depends on `cycles` (R94, R260, R39). -/
def Obligations.CyclesAreNeverRead : Prop :=
  ∀ (s t : State) (k : Nat), step s = .next t →
    step { s with cycles := s.cycles + k } = .next { t with cycles := t.cycles + k }

/-- The fault list is sticky (R40): a step appends at most one record, an IllegalOpcode, and it is the step's signal. -/
def Obligations.FaultRecordsAreSticky : Prop :=
  ∀ s t : State, step s = .next t →
    (t.faults = s.faults ∧ (stepOutput s t).2 = none)
      ∨ ∃ op p, t.faults = s.faults ++ [.illegalOpcode op p] ∧ (stepOutput s t).2 = some (.illegalOpcode op p)

/-! ### The invariant, reset and the host port -/

/-- Every step keeps the invariant. -/
def Obligations.EveryStepKeepsTheInvariant : Prop := ∀ s t : State, s.Inv → step s = .next t → t.Inv

/-- From power-on, with any draws, parameters and host inputs, the invariant holds and the next step completes. -/
def Obligations.ReachableStatesAreNeverStuck : Prop :=
  ∀ s : State, Reachable s → s.Inv ∧ ∃ t, step s = .next t

/-- Power-on (R44, R240): the values the spec gives, for any draws, parameters and cartridge: every unspecified register
is a draw, every RAM byte too (log entry 2), the mailbox holds Reset; and the invariant holds. `State.reset`, the same
with the draws of log entry 1, is one of these states. -/
def Obligations.PowerOnHoldsTheSpecsValues : Prop :=
  (∀ (w : Draws) (params : Params) (image : Memory), image.wf → image.within 0x6000 0x10000 →
    let s := State.powerOnWith w params image
    s.a = w.a ∧ s.x = w.x ∧ s.y = w.y ∧ s.sp = w.sp ∧ s.pc = w.pc ∧ s.c = w.c ∧ s.z = w.z ∧ s.i = w.i ∧ s.d = w.d
      ∧ s.v = w.v ∧ s.n = w.n ∧ s.b = false ∧ s.mailbox = some .reset ∧ s.stall = 0 ∧ s.cycles = 0 ∧ s.faults = []
      ∧ (∀ k, s.ramByte k = Config.ramDraw 0 k) ∧ s.Inv)
  ∧ State.reset = State.powerOnWith Draws.chosen {} [] ∧ State.reset.Inv

/-- The host port (R59, R200, R226, R228): a request overwrites the slot, stalls add up, a bus reset changes no CPU state,
draws every RAM byte anew and is seen by PERIPH and MAPPER (in the form of log entries 2, 4 to 6 and 8), and what the
snapshot reads. -/
def Obligations.HostPortFollowsItsRules : Prop :=
  ∀ (s : State) (k k' : Interrupt) (p q : Nat),
    s.requestInterrupt k = { s with mailbox := some k }
    ∧ (s.requestInterrupt k).requestInterrupt k' = s.requestInterrupt k'
    ∧ s.addStall p = { s with stall := s.stall + p } ∧ (s.addStall p).addStall q = s.addStall (p + q)
    ∧ s.busReset = { s with
        ram := [], ramEpoch := s.ramEpoch + 1, periph := .busReset :: s.periph
        mapper := s.mapper.busReset s.params.mapperWrites }
    ∧ (∀ j, s.busReset.ramByte j = Config.ramDraw (s.ramEpoch + 1) j)
    ∧ (s.params.mapperWrites = .anyEffect → ∀ a : Addr, 0x6000 ≤ a.toNat →
        s.busReset.peek a = Config.mapperRead (.busReset :: s.mapper.events) a)
    ∧ s.snapshot.a = s.a ∧ s.snapshot.x = s.x ∧ s.snapshot.y = s.y ∧ s.snapshot.sp = s.sp ∧ s.snapshot.pc = s.pc
    ∧ s.snapshot.p = s.pack false ∧ s.snapshot.cycles = s.cycles ∧ s.snapshot.stall = s.stall
    ∧ s.snapshot.mailbox = s.mailbox

/-- The model's own convention (log entry 10): `withFetchWord` makes the very next step run the word's instruction, from
any state that is not stuck, whatever its mailbox, stall counter and PC. -/
def Obligations.PlacedWordRunsNext : Prop :=
  ∀ (s : State) (nbits w : Nat) (i : Instr), s.stuckAt = none → decodeTableWord nbits w = some i →
    step (s.withFetchWord nbits w) = exec i (s.withFetchWord nbits w).serviceMailbox
end

