-- ==== Sys2Proof/Laws/Memory.lean ====
section
/-! SUPPORT. Memories: read after write, and that a write keeps the canonical form and the range of keys. -/

namespace Sys2Proof.Machine

@[simp] theorem Memory.get_nil (k : Nat) : Memory.get [] k = none := rfl

theorem Memory.get_cons (c : Host.Cell) (m : Memory) (k : Nat) :
    Memory.get (c :: m) k = if c.1 = k then some c.2 else Memory.get m k := by
  obtain ⟨k', v⟩ := c
  rfl

/-- What is read after a write: the byte written at its key, what was there elsewhere. -/
theorem Memory.get_set (m : Memory) (k k' : Nat) (v : Byte) :
    Memory.get (m.set k v) k' = if k = k' then some v else m.get k' := by
  induction m with
  | nil => simp [Memory.set, Memory.get]
  | cons c rest ih =>
    obtain ⟨kc, vc⟩ := c
    simp only [Memory.set]
    split
    · simp [Memory.get_cons]
    · split
      · rename_i h
        subst h
        simp only [Memory.get_cons]
        split <;> rfl
      · rename_i _ h
        simp only [Memory.get_cons, ih]
        by_cases h1 : kc = k'
        · subst h1
          simp [h]
        · simp [h1]

@[simp] theorem Memory.get_set_same (m : Memory) (k : Nat) (v : Byte) : Memory.get (m.set k v) k = some v := by
  simp [Memory.get_set]

theorem Memory.get_set_other (m : Memory) {k k' : Nat} (v : Byte) (h : k ≠ k') :
    Memory.get (m.set k v) k' = m.get k' := by
  simp [Memory.get_set, h]

/-- A cell of the memory after a write is the one written or was there before. -/
theorem Memory.mem_set {m : Memory} {k : Nat} {v : Byte} {cell : Host.Cell} (h : cell ∈ m.set k v) :
    cell = (k, v) ∨ cell ∈ m := by
  induction m with
  | nil => simpa [Memory.set] using h
  | cons c rest ih =>
    obtain ⟨kc, vc⟩ := c
    simp only [Memory.set] at h
    split at h
    · simpa using h
    · split at h
      · rcases List.mem_cons.mp h with h | h
        · exact .inl h
        · exact .inr (List.mem_cons_of_mem _ h)
      · rcases List.mem_cons.mp h with h | h
        · exact .inr (h ▸ List.mem_cons_self)
        · exact (ih h).imp id (List.mem_cons_of_mem _)

/-- A write keeps the canonical form. -/
theorem Memory.set_wf {m : Memory} (hm : m.wf) (k : Nat) (v : Byte) : (m.set k v).wf := by
  induction m with
  | nil => simp [Memory.set, Memory.wf]
  | cons c rest ih =>
    obtain ⟨kc, vc⟩ := c
    obtain ⟨hc, hrest⟩ := List.pairwise_cons.mp hm
    simp only [Memory.set]
    split
    · rename_i hlt
      refine List.pairwise_cons.mpr ⟨fun p hp => ?_, hm⟩
      rcases List.mem_cons.mp hp with rfl | hp
      · exact hlt
      · exact Nat.lt_trans hlt (hc p hp)
    · split
      · rename_i _ heq
        subst heq
        exact List.pairwise_cons.mpr ⟨hc, hrest⟩
      · rename_i h1 h2
        refine List.pairwise_cons.mpr ⟨fun p hp => ?_, ih hrest⟩
        rcases Memory.mem_set hp with rfl | hp
        · simp only
          omega
        · exact hc p hp

/-- A write at a key in range keeps every key in range. -/
theorem Memory.set_within {m : Memory} {low high : Nat} (hm : m.within low high) {k : Nat} (hk : low ≤ k ∧ k < high)
    (v : Byte) : (m.set k v).within low high := by
  intro cell hcell
  rcases Memory.mem_set hcell with rfl | h
  · exact hk
  · exact hm cell h

end Sys2Proof.Machine
end

