-- ==== Sys2Proof/Laws/State.lean ====
section
/-! SUPPORT. One lemma per field per named update of State, so that no proof unfolds a record update. -/

namespace Sys2Proof.Machine

@[simp] theorem State.setA_a (s : State) (w : Byte) : (s.setA w).a = w := rfl
@[simp] theorem State.setA_x (s : State) (w : Byte) : (s.setA w).x = s.x := rfl
@[simp] theorem State.setA_y (s : State) (w : Byte) : (s.setA w).y = s.y := rfl
@[simp] theorem State.setA_sp (s : State) (w : Byte) : (s.setA w).sp = s.sp := rfl
@[simp] theorem State.setA_pc (s : State) (w : Byte) : (s.setA w).pc = s.pc := rfl
@[simp] theorem State.setA_c (s : State) (w : Byte) : (s.setA w).c = s.c := rfl
@[simp] theorem State.setA_z (s : State) (w : Byte) : (s.setA w).z = s.z := rfl
@[simp] theorem State.setA_i (s : State) (w : Byte) : (s.setA w).i = s.i := rfl
@[simp] theorem State.setA_d (s : State) (w : Byte) : (s.setA w).d = s.d := rfl
@[simp] theorem State.setA_b (s : State) (w : Byte) : (s.setA w).b = s.b := rfl
@[simp] theorem State.setA_v (s : State) (w : Byte) : (s.setA w).v = s.v := rfl
@[simp] theorem State.setA_n (s : State) (w : Byte) : (s.setA w).n = s.n := rfl
@[simp] theorem State.setA_mailbox (s : State) (w : Byte) : (s.setA w).mailbox = s.mailbox := rfl
@[simp] theorem State.setA_stall (s : State) (w : Byte) : (s.setA w).stall = s.stall := rfl
@[simp] theorem State.setA_cycles (s : State) (w : Byte) : (s.setA w).cycles = s.cycles := rfl
@[simp] theorem State.setA_faults (s : State) (w : Byte) : (s.setA w).faults = s.faults := rfl
@[simp] theorem State.setA_ram (s : State) (w : Byte) : (s.setA w).ram = s.ram := rfl
@[simp] theorem State.setA_ramEpoch (s : State) (w : Byte) : (s.setA w).ramEpoch = s.ramEpoch := rfl
@[simp] theorem State.setA_mapper (s : State) (w : Byte) : (s.setA w).mapper = s.mapper := rfl
@[simp] theorem State.setA_periph (s : State) (w : Byte) : (s.setA w).periph = s.periph := rfl
@[simp] theorem State.setA_params (s : State) (w : Byte) : (s.setA w).params = s.params := rfl

@[simp] theorem State.setX_a (s : State) (w : Byte) : (s.setX w).a = s.a := rfl
@[simp] theorem State.setX_x (s : State) (w : Byte) : (s.setX w).x = w := rfl
@[simp] theorem State.setX_y (s : State) (w : Byte) : (s.setX w).y = s.y := rfl
@[simp] theorem State.setX_sp (s : State) (w : Byte) : (s.setX w).sp = s.sp := rfl
@[simp] theorem State.setX_pc (s : State) (w : Byte) : (s.setX w).pc = s.pc := rfl
@[simp] theorem State.setX_c (s : State) (w : Byte) : (s.setX w).c = s.c := rfl
@[simp] theorem State.setX_z (s : State) (w : Byte) : (s.setX w).z = s.z := rfl
@[simp] theorem State.setX_i (s : State) (w : Byte) : (s.setX w).i = s.i := rfl
@[simp] theorem State.setX_d (s : State) (w : Byte) : (s.setX w).d = s.d := rfl
@[simp] theorem State.setX_b (s : State) (w : Byte) : (s.setX w).b = s.b := rfl
@[simp] theorem State.setX_v (s : State) (w : Byte) : (s.setX w).v = s.v := rfl
@[simp] theorem State.setX_n (s : State) (w : Byte) : (s.setX w).n = s.n := rfl
@[simp] theorem State.setX_mailbox (s : State) (w : Byte) : (s.setX w).mailbox = s.mailbox := rfl
@[simp] theorem State.setX_stall (s : State) (w : Byte) : (s.setX w).stall = s.stall := rfl
@[simp] theorem State.setX_cycles (s : State) (w : Byte) : (s.setX w).cycles = s.cycles := rfl
@[simp] theorem State.setX_faults (s : State) (w : Byte) : (s.setX w).faults = s.faults := rfl
@[simp] theorem State.setX_ram (s : State) (w : Byte) : (s.setX w).ram = s.ram := rfl
@[simp] theorem State.setX_ramEpoch (s : State) (w : Byte) : (s.setX w).ramEpoch = s.ramEpoch := rfl
@[simp] theorem State.setX_mapper (s : State) (w : Byte) : (s.setX w).mapper = s.mapper := rfl
@[simp] theorem State.setX_periph (s : State) (w : Byte) : (s.setX w).periph = s.periph := rfl
@[simp] theorem State.setX_params (s : State) (w : Byte) : (s.setX w).params = s.params := rfl

@[simp] theorem State.setY_a (s : State) (w : Byte) : (s.setY w).a = s.a := rfl
@[simp] theorem State.setY_x (s : State) (w : Byte) : (s.setY w).x = s.x := rfl
@[simp] theorem State.setY_y (s : State) (w : Byte) : (s.setY w).y = w := rfl
@[simp] theorem State.setY_sp (s : State) (w : Byte) : (s.setY w).sp = s.sp := rfl
@[simp] theorem State.setY_pc (s : State) (w : Byte) : (s.setY w).pc = s.pc := rfl
@[simp] theorem State.setY_c (s : State) (w : Byte) : (s.setY w).c = s.c := rfl
@[simp] theorem State.setY_z (s : State) (w : Byte) : (s.setY w).z = s.z := rfl
@[simp] theorem State.setY_i (s : State) (w : Byte) : (s.setY w).i = s.i := rfl
@[simp] theorem State.setY_d (s : State) (w : Byte) : (s.setY w).d = s.d := rfl
@[simp] theorem State.setY_b (s : State) (w : Byte) : (s.setY w).b = s.b := rfl
@[simp] theorem State.setY_v (s : State) (w : Byte) : (s.setY w).v = s.v := rfl
@[simp] theorem State.setY_n (s : State) (w : Byte) : (s.setY w).n = s.n := rfl
@[simp] theorem State.setY_mailbox (s : State) (w : Byte) : (s.setY w).mailbox = s.mailbox := rfl
@[simp] theorem State.setY_stall (s : State) (w : Byte) : (s.setY w).stall = s.stall := rfl
@[simp] theorem State.setY_cycles (s : State) (w : Byte) : (s.setY w).cycles = s.cycles := rfl
@[simp] theorem State.setY_faults (s : State) (w : Byte) : (s.setY w).faults = s.faults := rfl
@[simp] theorem State.setY_ram (s : State) (w : Byte) : (s.setY w).ram = s.ram := rfl
@[simp] theorem State.setY_ramEpoch (s : State) (w : Byte) : (s.setY w).ramEpoch = s.ramEpoch := rfl
@[simp] theorem State.setY_mapper (s : State) (w : Byte) : (s.setY w).mapper = s.mapper := rfl
@[simp] theorem State.setY_periph (s : State) (w : Byte) : (s.setY w).periph = s.periph := rfl
@[simp] theorem State.setY_params (s : State) (w : Byte) : (s.setY w).params = s.params := rfl

@[simp] theorem State.setSp_a (s : State) (w : Byte) : (s.setSp w).a = s.a := rfl
@[simp] theorem State.setSp_x (s : State) (w : Byte) : (s.setSp w).x = s.x := rfl
@[simp] theorem State.setSp_y (s : State) (w : Byte) : (s.setSp w).y = s.y := rfl
@[simp] theorem State.setSp_sp (s : State) (w : Byte) : (s.setSp w).sp = w := rfl
@[simp] theorem State.setSp_pc (s : State) (w : Byte) : (s.setSp w).pc = s.pc := rfl
@[simp] theorem State.setSp_c (s : State) (w : Byte) : (s.setSp w).c = s.c := rfl
@[simp] theorem State.setSp_z (s : State) (w : Byte) : (s.setSp w).z = s.z := rfl
@[simp] theorem State.setSp_i (s : State) (w : Byte) : (s.setSp w).i = s.i := rfl
@[simp] theorem State.setSp_d (s : State) (w : Byte) : (s.setSp w).d = s.d := rfl
@[simp] theorem State.setSp_b (s : State) (w : Byte) : (s.setSp w).b = s.b := rfl
@[simp] theorem State.setSp_v (s : State) (w : Byte) : (s.setSp w).v = s.v := rfl
@[simp] theorem State.setSp_n (s : State) (w : Byte) : (s.setSp w).n = s.n := rfl
@[simp] theorem State.setSp_mailbox (s : State) (w : Byte) : (s.setSp w).mailbox = s.mailbox := rfl
@[simp] theorem State.setSp_stall (s : State) (w : Byte) : (s.setSp w).stall = s.stall := rfl
@[simp] theorem State.setSp_cycles (s : State) (w : Byte) : (s.setSp w).cycles = s.cycles := rfl
@[simp] theorem State.setSp_faults (s : State) (w : Byte) : (s.setSp w).faults = s.faults := rfl
@[simp] theorem State.setSp_ram (s : State) (w : Byte) : (s.setSp w).ram = s.ram := rfl
@[simp] theorem State.setSp_ramEpoch (s : State) (w : Byte) : (s.setSp w).ramEpoch = s.ramEpoch := rfl
@[simp] theorem State.setSp_mapper (s : State) (w : Byte) : (s.setSp w).mapper = s.mapper := rfl
@[simp] theorem State.setSp_periph (s : State) (w : Byte) : (s.setSp w).periph = s.periph := rfl
@[simp] theorem State.setSp_params (s : State) (w : Byte) : (s.setSp w).params = s.params := rfl

@[simp] theorem State.setPc_a (s : State) (w : Addr) : (s.setPc w).a = s.a := rfl
@[simp] theorem State.setPc_x (s : State) (w : Addr) : (s.setPc w).x = s.x := rfl
@[simp] theorem State.setPc_y (s : State) (w : Addr) : (s.setPc w).y = s.y := rfl
@[simp] theorem State.setPc_sp (s : State) (w : Addr) : (s.setPc w).sp = s.sp := rfl
@[simp] theorem State.setPc_pc (s : State) (w : Addr) : (s.setPc w).pc = w := rfl
@[simp] theorem State.setPc_c (s : State) (w : Addr) : (s.setPc w).c = s.c := rfl
@[simp] theorem State.setPc_z (s : State) (w : Addr) : (s.setPc w).z = s.z := rfl
@[simp] theorem State.setPc_i (s : State) (w : Addr) : (s.setPc w).i = s.i := rfl
@[simp] theorem State.setPc_d (s : State) (w : Addr) : (s.setPc w).d = s.d := rfl
@[simp] theorem State.setPc_b (s : State) (w : Addr) : (s.setPc w).b = s.b := rfl
@[simp] theorem State.setPc_v (s : State) (w : Addr) : (s.setPc w).v = s.v := rfl
@[simp] theorem State.setPc_n (s : State) (w : Addr) : (s.setPc w).n = s.n := rfl
@[simp] theorem State.setPc_mailbox (s : State) (w : Addr) : (s.setPc w).mailbox = s.mailbox := rfl
@[simp] theorem State.setPc_stall (s : State) (w : Addr) : (s.setPc w).stall = s.stall := rfl
@[simp] theorem State.setPc_cycles (s : State) (w : Addr) : (s.setPc w).cycles = s.cycles := rfl
@[simp] theorem State.setPc_faults (s : State) (w : Addr) : (s.setPc w).faults = s.faults := rfl
@[simp] theorem State.setPc_ram (s : State) (w : Addr) : (s.setPc w).ram = s.ram := rfl
@[simp] theorem State.setPc_ramEpoch (s : State) (w : Addr) : (s.setPc w).ramEpoch = s.ramEpoch := rfl
@[simp] theorem State.setPc_mapper (s : State) (w : Addr) : (s.setPc w).mapper = s.mapper := rfl
@[simp] theorem State.setPc_periph (s : State) (w : Addr) : (s.setPc w).periph = s.periph := rfl
@[simp] theorem State.setPc_params (s : State) (w : Addr) : (s.setPc w).params = s.params := rfl

@[simp] theorem State.setMailbox_a (s : State) (w : Option Interrupt) : (s.setMailbox w).a = s.a := rfl
@[simp] theorem State.setMailbox_x (s : State) (w : Option Interrupt) : (s.setMailbox w).x = s.x := rfl
@[simp] theorem State.setMailbox_y (s : State) (w : Option Interrupt) : (s.setMailbox w).y = s.y := rfl
@[simp] theorem State.setMailbox_sp (s : State) (w : Option Interrupt) : (s.setMailbox w).sp = s.sp := rfl
@[simp] theorem State.setMailbox_pc (s : State) (w : Option Interrupt) : (s.setMailbox w).pc = s.pc := rfl
@[simp] theorem State.setMailbox_c (s : State) (w : Option Interrupt) : (s.setMailbox w).c = s.c := rfl
@[simp] theorem State.setMailbox_z (s : State) (w : Option Interrupt) : (s.setMailbox w).z = s.z := rfl
@[simp] theorem State.setMailbox_i (s : State) (w : Option Interrupt) : (s.setMailbox w).i = s.i := rfl
@[simp] theorem State.setMailbox_d (s : State) (w : Option Interrupt) : (s.setMailbox w).d = s.d := rfl
@[simp] theorem State.setMailbox_b (s : State) (w : Option Interrupt) : (s.setMailbox w).b = s.b := rfl
@[simp] theorem State.setMailbox_v (s : State) (w : Option Interrupt) : (s.setMailbox w).v = s.v := rfl
@[simp] theorem State.setMailbox_n (s : State) (w : Option Interrupt) : (s.setMailbox w).n = s.n := rfl
@[simp] theorem State.setMailbox_mailbox (s : State) (w : Option Interrupt) : (s.setMailbox w).mailbox = w := rfl
@[simp] theorem State.setMailbox_stall (s : State) (w : Option Interrupt) : (s.setMailbox w).stall = s.stall := rfl
@[simp] theorem State.setMailbox_cycles (s : State) (w : Option Interrupt) : (s.setMailbox w).cycles = s.cycles := rfl
@[simp] theorem State.setMailbox_faults (s : State) (w : Option Interrupt) : (s.setMailbox w).faults = s.faults := rfl
@[simp] theorem State.setMailbox_ram (s : State) (w : Option Interrupt) : (s.setMailbox w).ram = s.ram := rfl
@[simp] theorem State.setMailbox_ramEpoch (s : State) (w : Option Interrupt) : (s.setMailbox w).ramEpoch = s.ramEpoch := rfl
@[simp] theorem State.setMailbox_mapper (s : State) (w : Option Interrupt) : (s.setMailbox w).mapper = s.mapper := rfl
@[simp] theorem State.setMailbox_periph (s : State) (w : Option Interrupt) : (s.setMailbox w).periph = s.periph := rfl
@[simp] theorem State.setMailbox_params (s : State) (w : Option Interrupt) : (s.setMailbox w).params = s.params := rfl

@[simp] theorem State.addCycles_a (s : State) (k : Nat) : (s.addCycles k).a = s.a := rfl
@[simp] theorem State.addCycles_x (s : State) (k : Nat) : (s.addCycles k).x = s.x := rfl
@[simp] theorem State.addCycles_y (s : State) (k : Nat) : (s.addCycles k).y = s.y := rfl
@[simp] theorem State.addCycles_sp (s : State) (k : Nat) : (s.addCycles k).sp = s.sp := rfl
@[simp] theorem State.addCycles_pc (s : State) (k : Nat) : (s.addCycles k).pc = s.pc := rfl
@[simp] theorem State.addCycles_c (s : State) (k : Nat) : (s.addCycles k).c = s.c := rfl
@[simp] theorem State.addCycles_z (s : State) (k : Nat) : (s.addCycles k).z = s.z := rfl
@[simp] theorem State.addCycles_i (s : State) (k : Nat) : (s.addCycles k).i = s.i := rfl
@[simp] theorem State.addCycles_d (s : State) (k : Nat) : (s.addCycles k).d = s.d := rfl
@[simp] theorem State.addCycles_b (s : State) (k : Nat) : (s.addCycles k).b = s.b := rfl
@[simp] theorem State.addCycles_v (s : State) (k : Nat) : (s.addCycles k).v = s.v := rfl
@[simp] theorem State.addCycles_n (s : State) (k : Nat) : (s.addCycles k).n = s.n := rfl
@[simp] theorem State.addCycles_mailbox (s : State) (k : Nat) : (s.addCycles k).mailbox = s.mailbox := rfl
@[simp] theorem State.addCycles_stall (s : State) (k : Nat) : (s.addCycles k).stall = s.stall := rfl
@[simp] theorem State.addCycles_cycles (s : State) (k : Nat) : (s.addCycles k).cycles = s.cycles + k := rfl
@[simp] theorem State.addCycles_faults (s : State) (k : Nat) : (s.addCycles k).faults = s.faults := rfl
@[simp] theorem State.addCycles_ram (s : State) (k : Nat) : (s.addCycles k).ram = s.ram := rfl
@[simp] theorem State.addCycles_ramEpoch (s : State) (k : Nat) : (s.addCycles k).ramEpoch = s.ramEpoch := rfl
@[simp] theorem State.addCycles_mapper (s : State) (k : Nat) : (s.addCycles k).mapper = s.mapper := rfl
@[simp] theorem State.addCycles_periph (s : State) (k : Nat) : (s.addCycles k).periph = s.periph := rfl
@[simp] theorem State.addCycles_params (s : State) (k : Nat) : (s.addCycles k).params = s.params := rfl

@[simp] theorem State.recordFault_a (s : State) (r : FaultRecord) : (s.recordFault r).a = s.a := rfl
@[simp] theorem State.recordFault_x (s : State) (r : FaultRecord) : (s.recordFault r).x = s.x := rfl
@[simp] theorem State.recordFault_y (s : State) (r : FaultRecord) : (s.recordFault r).y = s.y := rfl
@[simp] theorem State.recordFault_sp (s : State) (r : FaultRecord) : (s.recordFault r).sp = s.sp := rfl
@[simp] theorem State.recordFault_pc (s : State) (r : FaultRecord) : (s.recordFault r).pc = s.pc := rfl
@[simp] theorem State.recordFault_c (s : State) (r : FaultRecord) : (s.recordFault r).c = s.c := rfl
@[simp] theorem State.recordFault_z (s : State) (r : FaultRecord) : (s.recordFault r).z = s.z := rfl
@[simp] theorem State.recordFault_i (s : State) (r : FaultRecord) : (s.recordFault r).i = s.i := rfl
@[simp] theorem State.recordFault_d (s : State) (r : FaultRecord) : (s.recordFault r).d = s.d := rfl
@[simp] theorem State.recordFault_b (s : State) (r : FaultRecord) : (s.recordFault r).b = s.b := rfl
@[simp] theorem State.recordFault_v (s : State) (r : FaultRecord) : (s.recordFault r).v = s.v := rfl
@[simp] theorem State.recordFault_n (s : State) (r : FaultRecord) : (s.recordFault r).n = s.n := rfl
@[simp] theorem State.recordFault_mailbox (s : State) (r : FaultRecord) : (s.recordFault r).mailbox = s.mailbox := rfl
@[simp] theorem State.recordFault_stall (s : State) (r : FaultRecord) : (s.recordFault r).stall = s.stall := rfl
@[simp] theorem State.recordFault_cycles (s : State) (r : FaultRecord) : (s.recordFault r).cycles = s.cycles := rfl
@[simp] theorem State.recordFault_faults (s : State) (r : FaultRecord) : (s.recordFault r).faults = s.faults ++ [r] := rfl
@[simp] theorem State.recordFault_ram (s : State) (r : FaultRecord) : (s.recordFault r).ram = s.ram := rfl
@[simp] theorem State.recordFault_ramEpoch (s : State) (r : FaultRecord) : (s.recordFault r).ramEpoch = s.ramEpoch := rfl
@[simp] theorem State.recordFault_mapper (s : State) (r : FaultRecord) : (s.recordFault r).mapper = s.mapper := rfl
@[simp] theorem State.recordFault_periph (s : State) (r : FaultRecord) : (s.recordFault r).periph = s.periph := rfl
@[simp] theorem State.recordFault_params (s : State) (r : FaultRecord) : (s.recordFault r).params = s.params := rfl

@[simp] theorem State.setC_a (s : State) (w : Bool) : (s.setC w).a = s.a := rfl
@[simp] theorem State.setC_x (s : State) (w : Bool) : (s.setC w).x = s.x := rfl
@[simp] theorem State.setC_y (s : State) (w : Bool) : (s.setC w).y = s.y := rfl
@[simp] theorem State.setC_sp (s : State) (w : Bool) : (s.setC w).sp = s.sp := rfl
@[simp] theorem State.setC_pc (s : State) (w : Bool) : (s.setC w).pc = s.pc := rfl
@[simp] theorem State.setC_c (s : State) (w : Bool) : (s.setC w).c = w := rfl
@[simp] theorem State.setC_z (s : State) (w : Bool) : (s.setC w).z = s.z := rfl
@[simp] theorem State.setC_i (s : State) (w : Bool) : (s.setC w).i = s.i := rfl
@[simp] theorem State.setC_d (s : State) (w : Bool) : (s.setC w).d = s.d := rfl
@[simp] theorem State.setC_b (s : State) (w : Bool) : (s.setC w).b = s.b := rfl
@[simp] theorem State.setC_v (s : State) (w : Bool) : (s.setC w).v = s.v := rfl
@[simp] theorem State.setC_n (s : State) (w : Bool) : (s.setC w).n = s.n := rfl
@[simp] theorem State.setC_mailbox (s : State) (w : Bool) : (s.setC w).mailbox = s.mailbox := rfl
@[simp] theorem State.setC_stall (s : State) (w : Bool) : (s.setC w).stall = s.stall := rfl
@[simp] theorem State.setC_cycles (s : State) (w : Bool) : (s.setC w).cycles = s.cycles := rfl
@[simp] theorem State.setC_faults (s : State) (w : Bool) : (s.setC w).faults = s.faults := rfl
@[simp] theorem State.setC_ram (s : State) (w : Bool) : (s.setC w).ram = s.ram := rfl
@[simp] theorem State.setC_ramEpoch (s : State) (w : Bool) : (s.setC w).ramEpoch = s.ramEpoch := rfl
@[simp] theorem State.setC_mapper (s : State) (w : Bool) : (s.setC w).mapper = s.mapper := rfl
@[simp] theorem State.setC_periph (s : State) (w : Bool) : (s.setC w).periph = s.periph := rfl
@[simp] theorem State.setC_params (s : State) (w : Bool) : (s.setC w).params = s.params := rfl

@[simp] theorem State.setI_a (s : State) (w : Bool) : (s.setI w).a = s.a := rfl
@[simp] theorem State.setI_x (s : State) (w : Bool) : (s.setI w).x = s.x := rfl
@[simp] theorem State.setI_y (s : State) (w : Bool) : (s.setI w).y = s.y := rfl
@[simp] theorem State.setI_sp (s : State) (w : Bool) : (s.setI w).sp = s.sp := rfl
@[simp] theorem State.setI_pc (s : State) (w : Bool) : (s.setI w).pc = s.pc := rfl
@[simp] theorem State.setI_c (s : State) (w : Bool) : (s.setI w).c = s.c := rfl
@[simp] theorem State.setI_z (s : State) (w : Bool) : (s.setI w).z = s.z := rfl
@[simp] theorem State.setI_i (s : State) (w : Bool) : (s.setI w).i = w := rfl
@[simp] theorem State.setI_d (s : State) (w : Bool) : (s.setI w).d = s.d := rfl
@[simp] theorem State.setI_b (s : State) (w : Bool) : (s.setI w).b = s.b := rfl
@[simp] theorem State.setI_v (s : State) (w : Bool) : (s.setI w).v = s.v := rfl
@[simp] theorem State.setI_n (s : State) (w : Bool) : (s.setI w).n = s.n := rfl
@[simp] theorem State.setI_mailbox (s : State) (w : Bool) : (s.setI w).mailbox = s.mailbox := rfl
@[simp] theorem State.setI_stall (s : State) (w : Bool) : (s.setI w).stall = s.stall := rfl
@[simp] theorem State.setI_cycles (s : State) (w : Bool) : (s.setI w).cycles = s.cycles := rfl
@[simp] theorem State.setI_faults (s : State) (w : Bool) : (s.setI w).faults = s.faults := rfl
@[simp] theorem State.setI_ram (s : State) (w : Bool) : (s.setI w).ram = s.ram := rfl
@[simp] theorem State.setI_ramEpoch (s : State) (w : Bool) : (s.setI w).ramEpoch = s.ramEpoch := rfl
@[simp] theorem State.setI_mapper (s : State) (w : Bool) : (s.setI w).mapper = s.mapper := rfl
@[simp] theorem State.setI_periph (s : State) (w : Bool) : (s.setI w).periph = s.periph := rfl
@[simp] theorem State.setI_params (s : State) (w : Bool) : (s.setI w).params = s.params := rfl

@[simp] theorem State.setD_a (s : State) (w : Bool) : (s.setD w).a = s.a := rfl
@[simp] theorem State.setD_x (s : State) (w : Bool) : (s.setD w).x = s.x := rfl
@[simp] theorem State.setD_y (s : State) (w : Bool) : (s.setD w).y = s.y := rfl
@[simp] theorem State.setD_sp (s : State) (w : Bool) : (s.setD w).sp = s.sp := rfl
@[simp] theorem State.setD_pc (s : State) (w : Bool) : (s.setD w).pc = s.pc := rfl
@[simp] theorem State.setD_c (s : State) (w : Bool) : (s.setD w).c = s.c := rfl
@[simp] theorem State.setD_z (s : State) (w : Bool) : (s.setD w).z = s.z := rfl
@[simp] theorem State.setD_i (s : State) (w : Bool) : (s.setD w).i = s.i := rfl
@[simp] theorem State.setD_d (s : State) (w : Bool) : (s.setD w).d = w := rfl
@[simp] theorem State.setD_b (s : State) (w : Bool) : (s.setD w).b = s.b := rfl
@[simp] theorem State.setD_v (s : State) (w : Bool) : (s.setD w).v = s.v := rfl
@[simp] theorem State.setD_n (s : State) (w : Bool) : (s.setD w).n = s.n := rfl
@[simp] theorem State.setD_mailbox (s : State) (w : Bool) : (s.setD w).mailbox = s.mailbox := rfl
@[simp] theorem State.setD_stall (s : State) (w : Bool) : (s.setD w).stall = s.stall := rfl
@[simp] theorem State.setD_cycles (s : State) (w : Bool) : (s.setD w).cycles = s.cycles := rfl
@[simp] theorem State.setD_faults (s : State) (w : Bool) : (s.setD w).faults = s.faults := rfl
@[simp] theorem State.setD_ram (s : State) (w : Bool) : (s.setD w).ram = s.ram := rfl
@[simp] theorem State.setD_ramEpoch (s : State) (w : Bool) : (s.setD w).ramEpoch = s.ramEpoch := rfl
@[simp] theorem State.setD_mapper (s : State) (w : Bool) : (s.setD w).mapper = s.mapper := rfl
@[simp] theorem State.setD_periph (s : State) (w : Bool) : (s.setD w).periph = s.periph := rfl
@[simp] theorem State.setD_params (s : State) (w : Bool) : (s.setD w).params = s.params := rfl

@[simp] theorem State.setV_a (s : State) (w : Bool) : (s.setV w).a = s.a := rfl
@[simp] theorem State.setV_x (s : State) (w : Bool) : (s.setV w).x = s.x := rfl
@[simp] theorem State.setV_y (s : State) (w : Bool) : (s.setV w).y = s.y := rfl
@[simp] theorem State.setV_sp (s : State) (w : Bool) : (s.setV w).sp = s.sp := rfl
@[simp] theorem State.setV_pc (s : State) (w : Bool) : (s.setV w).pc = s.pc := rfl
@[simp] theorem State.setV_c (s : State) (w : Bool) : (s.setV w).c = s.c := rfl
@[simp] theorem State.setV_z (s : State) (w : Bool) : (s.setV w).z = s.z := rfl
@[simp] theorem State.setV_i (s : State) (w : Bool) : (s.setV w).i = s.i := rfl
@[simp] theorem State.setV_d (s : State) (w : Bool) : (s.setV w).d = s.d := rfl
@[simp] theorem State.setV_b (s : State) (w : Bool) : (s.setV w).b = s.b := rfl
@[simp] theorem State.setV_v (s : State) (w : Bool) : (s.setV w).v = w := rfl
@[simp] theorem State.setV_n (s : State) (w : Bool) : (s.setV w).n = s.n := rfl
@[simp] theorem State.setV_mailbox (s : State) (w : Bool) : (s.setV w).mailbox = s.mailbox := rfl
@[simp] theorem State.setV_stall (s : State) (w : Bool) : (s.setV w).stall = s.stall := rfl
@[simp] theorem State.setV_cycles (s : State) (w : Bool) : (s.setV w).cycles = s.cycles := rfl
@[simp] theorem State.setV_faults (s : State) (w : Bool) : (s.setV w).faults = s.faults := rfl
@[simp] theorem State.setV_ram (s : State) (w : Bool) : (s.setV w).ram = s.ram := rfl
@[simp] theorem State.setV_ramEpoch (s : State) (w : Bool) : (s.setV w).ramEpoch = s.ramEpoch := rfl
@[simp] theorem State.setV_mapper (s : State) (w : Bool) : (s.setV w).mapper = s.mapper := rfl
@[simp] theorem State.setV_periph (s : State) (w : Bool) : (s.setV w).periph = s.periph := rfl
@[simp] theorem State.setV_params (s : State) (w : Bool) : (s.setV w).params = s.params := rfl

@[simp] theorem State.setZN_a (s : State) (w : Byte) : (s.setZN w).a = s.a := rfl
@[simp] theorem State.setZN_x (s : State) (w : Byte) : (s.setZN w).x = s.x := rfl
@[simp] theorem State.setZN_y (s : State) (w : Byte) : (s.setZN w).y = s.y := rfl
@[simp] theorem State.setZN_sp (s : State) (w : Byte) : (s.setZN w).sp = s.sp := rfl
@[simp] theorem State.setZN_pc (s : State) (w : Byte) : (s.setZN w).pc = s.pc := rfl
@[simp] theorem State.setZN_c (s : State) (w : Byte) : (s.setZN w).c = s.c := rfl
@[simp] theorem State.setZN_z (s : State) (w : Byte) : (s.setZN w).z = (w == 0) := rfl
@[simp] theorem State.setZN_i (s : State) (w : Byte) : (s.setZN w).i = s.i := rfl
@[simp] theorem State.setZN_d (s : State) (w : Byte) : (s.setZN w).d = s.d := rfl
@[simp] theorem State.setZN_b (s : State) (w : Byte) : (s.setZN w).b = s.b := rfl
@[simp] theorem State.setZN_v (s : State) (w : Byte) : (s.setZN w).v = s.v := rfl
@[simp] theorem State.setZN_n (s : State) (w : Byte) : (s.setZN w).n = w.getLsbD 7 := rfl
@[simp] theorem State.setZN_mailbox (s : State) (w : Byte) : (s.setZN w).mailbox = s.mailbox := rfl
@[simp] theorem State.setZN_stall (s : State) (w : Byte) : (s.setZN w).stall = s.stall := rfl
@[simp] theorem State.setZN_cycles (s : State) (w : Byte) : (s.setZN w).cycles = s.cycles := rfl
@[simp] theorem State.setZN_faults (s : State) (w : Byte) : (s.setZN w).faults = s.faults := rfl
@[simp] theorem State.setZN_ram (s : State) (w : Byte) : (s.setZN w).ram = s.ram := rfl
@[simp] theorem State.setZN_ramEpoch (s : State) (w : Byte) : (s.setZN w).ramEpoch = s.ramEpoch := rfl
@[simp] theorem State.setZN_mapper (s : State) (w : Byte) : (s.setZN w).mapper = s.mapper := rfl
@[simp] theorem State.setZN_periph (s : State) (w : Byte) : (s.setZN w).periph = s.periph := rfl
@[simp] theorem State.setZN_params (s : State) (w : Byte) : (s.setZN w).params = s.params := rfl

@[simp] theorem State.unpack_a (s : State) (w : Byte) : (s.unpack w).a = s.a := rfl
@[simp] theorem State.unpack_x (s : State) (w : Byte) : (s.unpack w).x = s.x := rfl
@[simp] theorem State.unpack_y (s : State) (w : Byte) : (s.unpack w).y = s.y := rfl
@[simp] theorem State.unpack_sp (s : State) (w : Byte) : (s.unpack w).sp = s.sp := rfl
@[simp] theorem State.unpack_pc (s : State) (w : Byte) : (s.unpack w).pc = s.pc := rfl
@[simp] theorem State.unpack_c (s : State) (w : Byte) : (s.unpack w).c = w.getLsbD 0 := rfl
@[simp] theorem State.unpack_z (s : State) (w : Byte) : (s.unpack w).z = w.getLsbD 1 := rfl
@[simp] theorem State.unpack_i (s : State) (w : Byte) : (s.unpack w).i = w.getLsbD 2 := rfl
@[simp] theorem State.unpack_d (s : State) (w : Byte) : (s.unpack w).d = w.getLsbD 3 := rfl
@[simp] theorem State.unpack_b (s : State) (w : Byte) : (s.unpack w).b = s.b := rfl
@[simp] theorem State.unpack_v (s : State) (w : Byte) : (s.unpack w).v = w.getLsbD 6 := rfl
@[simp] theorem State.unpack_n (s : State) (w : Byte) : (s.unpack w).n = w.getLsbD 7 := rfl
@[simp] theorem State.unpack_mailbox (s : State) (w : Byte) : (s.unpack w).mailbox = s.mailbox := rfl
@[simp] theorem State.unpack_stall (s : State) (w : Byte) : (s.unpack w).stall = s.stall := rfl
@[simp] theorem State.unpack_cycles (s : State) (w : Byte) : (s.unpack w).cycles = s.cycles := rfl
@[simp] theorem State.unpack_faults (s : State) (w : Byte) : (s.unpack w).faults = s.faults := rfl
@[simp] theorem State.unpack_ram (s : State) (w : Byte) : (s.unpack w).ram = s.ram := rfl
@[simp] theorem State.unpack_ramEpoch (s : State) (w : Byte) : (s.unpack w).ramEpoch = s.ramEpoch := rfl
@[simp] theorem State.unpack_mapper (s : State) (w : Byte) : (s.unpack w).mapper = s.mapper := rfl
@[simp] theorem State.unpack_periph (s : State) (w : Byte) : (s.unpack w).periph = s.periph := rfl
@[simp] theorem State.unpack_params (s : State) (w : Byte) : (s.unpack w).params = s.params := rfl

@[simp] theorem State.bitTest_a (s : State) (w : Byte) : (s.bitTest w).a = s.a := rfl
@[simp] theorem State.bitTest_x (s : State) (w : Byte) : (s.bitTest w).x = s.x := rfl
@[simp] theorem State.bitTest_y (s : State) (w : Byte) : (s.bitTest w).y = s.y := rfl
@[simp] theorem State.bitTest_sp (s : State) (w : Byte) : (s.bitTest w).sp = s.sp := rfl
@[simp] theorem State.bitTest_pc (s : State) (w : Byte) : (s.bitTest w).pc = s.pc := rfl
@[simp] theorem State.bitTest_c (s : State) (w : Byte) : (s.bitTest w).c = s.c := rfl
@[simp] theorem State.bitTest_z (s : State) (w : Byte) : (s.bitTest w).z = ((w &&& s.a) == 0) := rfl
@[simp] theorem State.bitTest_i (s : State) (w : Byte) : (s.bitTest w).i = s.i := rfl
@[simp] theorem State.bitTest_d (s : State) (w : Byte) : (s.bitTest w).d = s.d := rfl
@[simp] theorem State.bitTest_b (s : State) (w : Byte) : (s.bitTest w).b = s.b := rfl
@[simp] theorem State.bitTest_v (s : State) (w : Byte) : (s.bitTest w).v = w.getLsbD 6 := rfl
@[simp] theorem State.bitTest_n (s : State) (w : Byte) : (s.bitTest w).n = w.getLsbD 7 := rfl
@[simp] theorem State.bitTest_mailbox (s : State) (w : Byte) : (s.bitTest w).mailbox = s.mailbox := rfl
@[simp] theorem State.bitTest_stall (s : State) (w : Byte) : (s.bitTest w).stall = s.stall := rfl
@[simp] theorem State.bitTest_cycles (s : State) (w : Byte) : (s.bitTest w).cycles = s.cycles := rfl
@[simp] theorem State.bitTest_faults (s : State) (w : Byte) : (s.bitTest w).faults = s.faults := rfl
@[simp] theorem State.bitTest_ram (s : State) (w : Byte) : (s.bitTest w).ram = s.ram := rfl
@[simp] theorem State.bitTest_ramEpoch (s : State) (w : Byte) : (s.bitTest w).ramEpoch = s.ramEpoch := rfl
@[simp] theorem State.bitTest_mapper (s : State) (w : Byte) : (s.bitTest w).mapper = s.mapper := rfl
@[simp] theorem State.bitTest_periph (s : State) (w : Byte) : (s.bitTest w).periph = s.periph := rfl
@[simp] theorem State.bitTest_params (s : State) (w : Byte) : (s.bitTest w).params = s.params := rfl

@[simp] theorem State.compare_a (s : State) (r w : Byte) : (s.compare r w).a = s.a := rfl
@[simp] theorem State.compare_x (s : State) (r w : Byte) : (s.compare r w).x = s.x := rfl
@[simp] theorem State.compare_y (s : State) (r w : Byte) : (s.compare r w).y = s.y := rfl
@[simp] theorem State.compare_sp (s : State) (r w : Byte) : (s.compare r w).sp = s.sp := rfl
@[simp] theorem State.compare_pc (s : State) (r w : Byte) : (s.compare r w).pc = s.pc := rfl
@[simp] theorem State.compare_c (s : State) (r w : Byte) : (s.compare r w).c = decide (w.toNat ≤ r.toNat) := rfl
@[simp] theorem State.compare_z (s : State) (r w : Byte) : (s.compare r w).z = ((r - w) == 0) := rfl
@[simp] theorem State.compare_i (s : State) (r w : Byte) : (s.compare r w).i = s.i := rfl
@[simp] theorem State.compare_d (s : State) (r w : Byte) : (s.compare r w).d = s.d := rfl
@[simp] theorem State.compare_b (s : State) (r w : Byte) : (s.compare r w).b = s.b := rfl
@[simp] theorem State.compare_v (s : State) (r w : Byte) : (s.compare r w).v = s.v := rfl
@[simp] theorem State.compare_n (s : State) (r w : Byte) : (s.compare r w).n = (r - w).getLsbD 7 := rfl
@[simp] theorem State.compare_mailbox (s : State) (r w : Byte) : (s.compare r w).mailbox = s.mailbox := rfl
@[simp] theorem State.compare_stall (s : State) (r w : Byte) : (s.compare r w).stall = s.stall := rfl
@[simp] theorem State.compare_cycles (s : State) (r w : Byte) : (s.compare r w).cycles = s.cycles := rfl
@[simp] theorem State.compare_faults (s : State) (r w : Byte) : (s.compare r w).faults = s.faults := rfl
@[simp] theorem State.compare_ram (s : State) (r w : Byte) : (s.compare r w).ram = s.ram := rfl
@[simp] theorem State.compare_ramEpoch (s : State) (r w : Byte) : (s.compare r w).ramEpoch = s.ramEpoch := rfl
@[simp] theorem State.compare_mapper (s : State) (r w : Byte) : (s.compare r w).mapper = s.mapper := rfl
@[simp] theorem State.compare_periph (s : State) (r w : Byte) : (s.compare r w).periph = s.periph := rfl
@[simp] theorem State.compare_params (s : State) (r w : Byte) : (s.compare r w).params = s.params := rfl

@[simp] theorem State.setArith_a (s : State) (r : ArithResult) : (s.setArith r).a = r.a := rfl
@[simp] theorem State.setArith_x (s : State) (r : ArithResult) : (s.setArith r).x = s.x := rfl
@[simp] theorem State.setArith_y (s : State) (r : ArithResult) : (s.setArith r).y = s.y := rfl
@[simp] theorem State.setArith_sp (s : State) (r : ArithResult) : (s.setArith r).sp = s.sp := rfl
@[simp] theorem State.setArith_pc (s : State) (r : ArithResult) : (s.setArith r).pc = s.pc := rfl
@[simp] theorem State.setArith_c (s : State) (r : ArithResult) : (s.setArith r).c = r.c := rfl
@[simp] theorem State.setArith_z (s : State) (r : ArithResult) : (s.setArith r).z = r.z := rfl
@[simp] theorem State.setArith_i (s : State) (r : ArithResult) : (s.setArith r).i = s.i := rfl
@[simp] theorem State.setArith_d (s : State) (r : ArithResult) : (s.setArith r).d = s.d := rfl
@[simp] theorem State.setArith_b (s : State) (r : ArithResult) : (s.setArith r).b = s.b := rfl
@[simp] theorem State.setArith_v (s : State) (r : ArithResult) : (s.setArith r).v = r.v := rfl
@[simp] theorem State.setArith_n (s : State) (r : ArithResult) : (s.setArith r).n = r.n := rfl
@[simp] theorem State.setArith_mailbox (s : State) (r : ArithResult) : (s.setArith r).mailbox = s.mailbox := rfl
@[simp] theorem State.setArith_stall (s : State) (r : ArithResult) : (s.setArith r).stall = s.stall := rfl
@[simp] theorem State.setArith_cycles (s : State) (r : ArithResult) : (s.setArith r).cycles = s.cycles := rfl
@[simp] theorem State.setArith_faults (s : State) (r : ArithResult) : (s.setArith r).faults = s.faults := rfl
@[simp] theorem State.setArith_ram (s : State) (r : ArithResult) : (s.setArith r).ram = s.ram := rfl
@[simp] theorem State.setArith_ramEpoch (s : State) (r : ArithResult) : (s.setArith r).ramEpoch = s.ramEpoch := rfl
@[simp] theorem State.setArith_mapper (s : State) (r : ArithResult) : (s.setArith r).mapper = s.mapper := rfl
@[simp] theorem State.setArith_periph (s : State) (r : ArithResult) : (s.setArith r).periph = s.periph := rfl
@[simp] theorem State.setArith_params (s : State) (r : ArithResult) : (s.setArith r).params = s.params := rfl

end Sys2Proof.Machine
end

