-- ==== Sys2Proof/Laws/Bus.lean ====
section
/-! SUPPORT. The bus arbiter: where an address goes, what a read or write can change, and what a read gives after a
write. -/

namespace Sys2Proof.Machine

theorem route_ram_iff (a : Addr) : route a = .ram ↔ a.toNat < 0x2000 := by
  unfold route
  split
  · simp_all
  · repeat' split
    all_goals simp_all

theorem route_mapper_iff (a : Addr) : route a = .mapper ↔ 0x6000 ≤ a.toNat := by
  unfold route
  repeat' split
  all_goals simp
  all_goals omega

theorem isMemory_iff (a : Addr) : isMemory a = true ↔ route a = .ram ∨ route a = .mapper := by
  simp [isMemory]

theorem ramIndex_lt (a : Addr) : ramIndex a < 0x800 := Nat.mod_lt _ (by decide)

/-! ### The mapper adaptor (R222): the routing hands it no address below 0x6000 -/

theorem State.mapperPortRead_of_mapper {a : Addr} (h : route a = .mapper) (s : State) :
    s.mapperPortRead a = .ok (s.mapper.read a) :=
  if_neg (Nat.not_lt.mpr ((route_mapper_iff a).mp h))

theorem State.mapperPortWrite_of_mapper {a : Addr} (h : route a = .mapper) (w : Byte) (s : State) :
    s.mapperPortWrite a w = .ok { s with mapper := s.mapper.write s.params.mapperWrites a w } :=
  if_neg (Nat.not_lt.mpr ((route_mapper_iff a).mp h))

/-- What a read returns, target by target: the adaptor's check is always passed. -/
theorem State.peek_def (a : Addr) (s : State) : s.peek a =
    match route a with
    | .ram => s.ramByte (ramIndex a)
    | .video | .audio | .unmapped => Config.periphRead s.periph a
    | .mapper => s.mapper.read a := by
  unfold State.peek
  cases h : route a <;> simp [State.mapperPortRead_of_mapper, h]

/-- The effect of a read, target by target. -/
theorem State.touch_def (a : Addr) (s : State) : s.touch a =
    match route a with
    | .ram | .mapper => s
    | .video | .audio | .unmapped => { s with periph := .read a :: s.periph } := by
  unfold State.touch
  cases h : route a <;> simp [State.mapperPortRead_of_mapper, h]

/-- The effect of a write, target by target. -/
theorem State.writeByte_def (a : Addr) (w : Byte) (s : State) : s.writeByte a w =
    match route a with
    | .ram => { s with ram := s.ram.set (ramIndex a) w }
    | .video | .audio | .unmapped => { s with periph := .write a w :: s.periph }
    | .mapper => { s with mapper := s.mapper.write s.params.mapperWrites a w } := by
  unfold State.writeByte
  cases h : route a <;> simp [State.mapperPortWrite_of_mapper, h]

/-! ### Reads and writes -/

/-- A read changes at most PERIPH's state. -/
theorem State.touch_eq (a : Addr) (s : State) : s.touch a = { s with periph := (s.touch a).periph } := by
  rw [State.touch_def]
  split <;> rfl

/-- A read of RAM or of the mapper changes nothing. -/
theorem State.touch_of_isMemory {a : Addr} (h : isMemory a = true) (s : State) : s.touch a = s := by
  rcases (isMemory_iff a).mp h with h | h <;> simp [State.touch_def, h]

/-- A write changes at most RAM, the mapper and PERIPH. -/
theorem State.writeByte_eq (a : Addr) (w : Byte) (s : State) :
    s.writeByte a w = { s with ram := (s.writeByte a w).ram, mapper := (s.writeByte a w).mapper,
                               periph := (s.writeByte a w).periph } := by
  rw [State.writeByte_def]
  split <;> rfl

theorem State.writeByte_of_ram {a : Addr} (h : route a = .ram) (w : Byte) (s : State) :
    s.writeByte a w = { s with ram := s.ram.set (ramIndex a) w } := by
  simp [State.writeByte_def, h]

theorem State.writeByte_of_mapper {a : Addr} (h : route a = .mapper) (w : Byte) (s : State) :
    s.writeByte a w = { s with mapper := s.mapper.write s.params.mapperWrites a w } := by
  simp [State.writeByte_def, h]

theorem State.writeByte_of_periph {a : Addr} (h : isMemory a = false) (w : Byte) (s : State) :
    s.writeByte a w = { s with periph := .write a w :: s.periph } := by
  rw [State.writeByte_def]
  unfold isMemory at h
  split <;> simp_all

/-- What a read gives depends on RAM, the mapper and PERIPH only. -/
theorem State.peek_congr {s t : State} (a : Addr) (hram : s.ram = t.ram) (hepoch : s.ramEpoch = t.ramEpoch)
    (hmap : s.mapper = t.mapper) (hper : s.periph = t.periph) : s.peek a = t.peek a := by
  rw [State.peek_def, State.peek_def]
  unfold State.ramByte
  rw [hram, hepoch, hmap, hper]

/-! A read does not see the registers, flags, mailbox, counters and fault list. -/

@[simp] theorem State.peek_setA (v : Byte) (a : Addr) (s : State) : (s.setA v).peek a = s.peek a :=
  State.peek_congr a rfl rfl rfl rfl
@[simp] theorem State.peek_setX (v : Byte) (a : Addr) (s : State) : (s.setX v).peek a = s.peek a :=
  State.peek_congr a rfl rfl rfl rfl
@[simp] theorem State.peek_setY (v : Byte) (a : Addr) (s : State) : (s.setY v).peek a = s.peek a :=
  State.peek_congr a rfl rfl rfl rfl
@[simp] theorem State.peek_setSp (v : Byte) (a : Addr) (s : State) : (s.setSp v).peek a = s.peek a :=
  State.peek_congr a rfl rfl rfl rfl
@[simp] theorem State.peek_setPc (v : Addr) (a : Addr) (s : State) : (s.setPc v).peek a = s.peek a :=
  State.peek_congr a rfl rfl rfl rfl
@[simp] theorem State.peek_setMailbox (v : Option Interrupt) (a : Addr) (s : State) : (s.setMailbox v).peek a = s.peek a :=
  State.peek_congr a rfl rfl rfl rfl
@[simp] theorem State.peek_addCycles (v : Nat) (a : Addr) (s : State) : (s.addCycles v).peek a = s.peek a :=
  State.peek_congr a rfl rfl rfl rfl
@[simp] theorem State.peek_recordFault (v : FaultRecord) (a : Addr) (s : State) : (s.recordFault v).peek a = s.peek a :=
  State.peek_congr a rfl rfl rfl rfl
@[simp] theorem State.peek_setC (v : Bool) (a : Addr) (s : State) : (s.setC v).peek a = s.peek a :=
  State.peek_congr a rfl rfl rfl rfl
@[simp] theorem State.peek_setI (v : Bool) (a : Addr) (s : State) : (s.setI v).peek a = s.peek a :=
  State.peek_congr a rfl rfl rfl rfl
@[simp] theorem State.peek_setD (v : Bool) (a : Addr) (s : State) : (s.setD v).peek a = s.peek a :=
  State.peek_congr a rfl rfl rfl rfl
@[simp] theorem State.peek_setV (v : Bool) (a : Addr) (s : State) : (s.setV v).peek a = s.peek a :=
  State.peek_congr a rfl rfl rfl rfl
@[simp] theorem State.peek_setArith (v : ArithResult) (a : Addr) (s : State) : (s.setArith v).peek a = s.peek a :=
  State.peek_congr a rfl rfl rfl rfl
@[simp] theorem State.peek_setZN (v : Byte) (a : Addr) (s : State) : (s.setZN v).peek a = s.peek a :=
  State.peek_congr a rfl rfl rfl rfl
@[simp] theorem State.peek_unpack (v : Byte) (a : Addr) (s : State) : (s.unpack v).peek a = s.peek a :=
  State.peek_congr a rfl rfl rfl rfl

/-- At a memory address, PERIPH's state does not matter either. -/
theorem State.peek_memory_congr {s t : State} {a : Addr} (h : isMemory a = true) (hram : s.ram = t.ram)
    (hepoch : s.ramEpoch = t.ramEpoch) (hmap : s.mapper = t.mapper) : s.peek a = t.peek a := by
  rcases (isMemory_iff a).mp h with h | h <;> simp [State.peek_def, State.ramByte, h, hram, hepoch, hmap]

@[simp] theorem State.ramByte_set (s : State) (k k' : Nat) (w : Byte) :
    State.ramByte k' { s with ram := s.ram.set k w } = if k = k' then w else s.ramByte k' := by
  simp only [State.ramByte, Memory.get_set]
  split <;> rfl

/-- A read after a RAM write (R48, R49): the written byte at every mirror of its address, unchanged elsewhere. -/
theorem State.peek_writeByte_ram {a : Addr} (h : route a = .ram) (w : Byte) (b : Addr) (s : State) :
    (s.writeByte a w).peek b = if route b = .ram ∧ ramIndex a = ramIndex b then w else s.peek b := by
  rw [State.writeByte_of_ram h]
  rw [State.peek_def, State.peek_def]
  by_cases hb : route b = .ram
  · simp only [hb, true_and, State.ramByte_set]
  · cases hr : route b <;> simp_all

/-- The transfers of a word read. -/
theorem State.readPair_fst (a a' : Addr) (s : State) :
    (s.readPair a a').1 = mkWord ((s.touch a).peek a') (s.peek a) := rfl

theorem State.readPair_snd (a a' : Addr) (s : State) : (s.readPair a a').2 = (s.touch a).touch a' := rfl

theorem State.readPair_of_isMemory {a a' : Addr} (h : isMemory a = true) (h' : isMemory a' = true) (s : State) :
    s.readPair a a' = (mkWord (s.peek a') (s.peek a), s) := by
  refine Prod.ext ?_ ?_
  · simp only [State.readPair_fst, State.touch_of_isMemory h]
  · simp only [State.readPair_snd, State.touch_of_isMemory h, State.touch_of_isMemory h']

/-- A word read changes at most PERIPH's state. -/
theorem State.readPair_eq (a a' : Addr) (s : State) :
    (s.readPair a a').2 = { s with periph := (s.readPair a a').2.periph } := by
  simp only [State.readPair_snd]
  rw [State.touch_eq a' (s.touch a), State.touch_eq a s]

end Sys2Proof.Machine
end

