-- ==== Sys2Proof/Laws/Stack.lean ====
section
/-! SUPPORT. The stack and trap entry: every stack byte is RAM, so pushes and pulls change SP and RAM only, and a vector
read has no side effect. -/

namespace Sys2Proof.Machine

/-- The value of a word assembled from two bytes. -/
theorem mkWord_toNat (high low : Byte) : (mkWord high low).toNat = high.toNat * 256 + low.toNat := by
  rw [mkWord, BitVec.toNat_append, ← Nat.shiftLeft_add_eq_or_of_lt low.isLt, Nat.shiftLeft_eq]

theorem stackAddr_toNat (sp : Byte) : (stackAddr sp).toNat = 0x100 + sp.toNat := by
  rw [stackAddr, mkWord_toNat]
  simp

@[simp] theorem route_stackAddr (sp : Byte) : route (stackAddr sp) = .ram := by
  have := sp.isLt
  rw [route_ram_iff, stackAddr_toNat]
  omega

@[simp] theorem ramIndex_stackAddr (sp : Byte) : ramIndex (stackAddr sp) = 0x100 + sp.toNat := by
  have := sp.isLt
  rw [ramIndex, stackAddr_toNat]
  omega

@[simp] theorem isMemory_stackAddr (sp : Byte) : isMemory (stackAddr sp) = true := by simp [isMemory]

/-- `push` (R62): SP down by one, the byte into RAM at the new SP. -/
theorem State.push_eq (w : Byte) (s : State) :
    s.push w = { s with sp := s.sp - 1, ram := s.ram.set (0x100 + (s.sp - 1).toNat) w } := by
  unfold State.push
  rw [State.writeByte_of_ram (route_stackAddr _)]
  simp [State.setSp]

/-- `pull` (R63): the byte at SP, SP up by one. -/
theorem State.pull_eq (s : State) : s.pull = (s.ramByte (0x100 + s.sp.toNat), { s with sp := s.sp + 1 }) := by
  unfold State.pull State.readByte
  simp [State.touch_of_isMemory, State.peek_def, State.setSp]

/-- `push16` (R64): high byte first. -/
theorem State.push16_eq (w : Addr) (s : State) :
    s.push16 w = { s with sp := s.sp - 2,
                          ram := (s.ram.set (0x100 + (s.sp - 1).toNat) (hiByte w)).set (0x100 + (s.sp - 2).toNat)
                            (loByte w) } := by
  unfold State.push16
  simp only [State.push_eq]
  have h : s.sp - 1 - 1 = s.sp - 2 := by bv_omega
  rw [h]

/-- `pull16` (R65): low byte first. -/
theorem State.pull16_eq (s : State) :
    s.pull16 = (mkWord (s.ramByte (0x100 + (s.sp + 1).toNat)) (s.ramByte (0x100 + s.sp.toNat)),
      { s with sp := s.sp + 2 }) := by
  unfold State.pull16
  simp only [State.pull_eq, State.ramByte]
  have h : s.sp + 1 + 1 = s.sp + 2 := by bv_omega
  rw [h]

/-- A vector is read without side effects, wherever it lies in the mapper window. -/
theorem State.loadPc_eq {vector : Addr} (h : isMemory vector = true) (h' : isMemory (vector + 1) = true) (s : State) :
    s.loadPc vector = { s with pc := mkWord (s.peek (vector + 1)) (s.peek vector) } := by
  unfold State.loadPc State.readWord
  rw [State.readPair_of_isMemory h h']
  rfl

theorem isMemory_vectors : isMemory nmiVector = true ∧ isMemory (nmiVector + 1) = true ∧
    isMemory resetVector = true ∧ isMemory (resetVector + 1) = true ∧
    isMemory irqVector = true ∧ isMemory (irqVector + 1) = true := by decide

/-- Taking an interrupt or BRK through a vector in the mapper window: three pushes, I set, PC from the vector; nothing
else changes. -/
theorem State.enterTrap_eq {vector : Addr} (h : route vector = .mapper) (h' : route (vector + 1) = .mapper)
    (saved : Addr) (brk : Bool) (s : State) :
    s.enterTrap saved brk vector =
      { s with sp := s.sp - 3, i := true, pc := mkWord (s.mapper.read (vector + 1)) (s.mapper.read vector),
               ram := ((s.ram.set (0x100 + (s.sp - 1).toNat) (hiByte saved)).set (0x100 + (s.sp - 2).toNat)
                 (loByte saved)).set (0x100 + (s.sp - 3).toNat) (s.pack brk) } := by
  unfold State.enterTrap
  have hsp : s.sp - 2 - 1 = s.sp - 3 := by bv_omega
  rw [State.loadPc_eq ((isMemory_iff _).mpr (.inr h)) ((isMemory_iff _).mpr (.inr h')), State.push16_eq, State.push_eq]
  simp only [State.setI, State.peek_def, h, h', hsp]

/-- Returning from a trap: the flags from the byte at SP but for B, PC from the next two, SP up by three (R163, R213). -/
theorem State.returnFromTrap_eq (s : State) :
    s.returnFromTrap =
      let p := s.ramByte (0x100 + s.sp.toNat)
      { s with n := p.getLsbD 7, v := p.getLsbD 6, d := p.getLsbD 3, i := p.getLsbD 2, z := p.getLsbD 1, c := p.getLsbD 0
               sp := s.sp + 3
               pc := mkWord (s.ramByte (0x100 + (s.sp + 2).toNat)) (s.ramByte (0x100 + (s.sp + 1).toNat)) } := by
  have e1 : s.sp + 1 + 1 = s.sp + 2 := by bv_omega
  have e2 : s.sp + 1 + 2 = s.sp + 3 := by bv_omega
  unfold State.returnFromTrap
  simp only [State.pull_eq, State.pull16_eq, State.unpack, State.setPc, e1, e2]
  rfl

end Sys2Proof.Machine
end

