-- ==== Sys2Proof/Laws/Canonical.lean ====
section
/-! SUPPORT. The canonical form of the two memories (RAM and the known mapper bytes): every operation that writes one keeps
it. -/

namespace Sys2Proof.Machine

/-- RAM and the known mapper bytes are in canonical form and within their ranges. -/
def State.memoryOk (s : State) : Prop :=
  s.ram.wf ∧ s.ram.within 0 0x800 ∧ s.mapper.image.wf ∧ s.mapper.image.within 0x6000 0x10000

theorem State.memoryOk_congr {s t : State} (hr : t.ram = s.ram) (hm : t.mapper = s.mapper) (h : s.memoryOk) :
    t.memoryOk := by
  unfold State.memoryOk
  rw [hr, hm]
  exact h

theorem nil_wf : Memory.wf [] := List.Pairwise.nil

theorem nil_within (low high : Nat) : Memory.within low high [] := fun _ h => by cases h

/-- A mapper write keeps the known bytes in canonical form, whatever kind of mapper it is. -/
theorem Mapper.write_ok {m : Mapper} (kind : MapperWrites) {a : Addr} (ha : 0x6000 ≤ a.toNat) (w : Byte)
    (h : m.image.wf ∧ m.image.within 0x6000 0x10000) :
    (m.write kind a w).image.wf ∧ (m.write kind a w).image.within 0x6000 0x10000 := by
  cases kind
  · exact ⟨nil_wf, nil_within _ _⟩
  · exact h
  · exact ⟨Memory.set_wf h.1 _ _, Memory.set_within h.2 ⟨ha, a.isLt⟩ _⟩

theorem State.writeByte_memoryOk {s : State} (h : s.memoryOk) (a : Addr) (w : Byte) : (s.writeByte a w).memoryOk := by
  obtain ⟨h1, h2, h3, h4⟩ := h
  rw [State.writeByte_def]
  cases hr : route a
  · exact ⟨Memory.set_wf h1 _ _, Memory.set_within h2 ⟨Nat.zero_le _, ramIndex_lt a⟩ _, h3, h4⟩
  · exact ⟨h1, h2, h3, h4⟩
  · exact ⟨h1, h2, h3, h4⟩
  · exact ⟨h1, h2, h3, h4⟩
  · exact ⟨h1, h2, Mapper.write_ok _ ((route_mapper_iff a).mp hr) w ⟨h3, h4⟩⟩

theorem State.push_memoryOk {s : State} (h : s.memoryOk) (w : Byte) : (s.push w).memoryOk := by
  exact State.writeByte_memoryOk (s := s.setSp (s.sp - 1)) h _ _

theorem State.push16_memoryOk {s : State} (h : s.memoryOk) (w : Addr) : (s.push16 w).memoryOk :=
  State.push_memoryOk (State.push_memoryOk h _) _

/-- Trap entry keeps it, and so does the return, which writes no memory. -/
theorem State.enterTrap_memoryOk {s : State} (h : s.memoryOk) (saved : Addr) (brk : Bool) (vector : Addr) :
    (s.enterTrap saved brk vector).memoryOk := by
  have h' := State.push_memoryOk (State.push16_memoryOk h saved) (s.pack brk)
  have hr := State.readPair_eq vector (vector + 1) (((s.push16 saved).push (s.pack brk)).setI true)
  refine State.memoryOk_congr (s := (s.push16 saved).push (s.pack brk)) ?_ ?_ h'
  · exact (congrArg State.ram hr : (State.readPair _ _ _).2.ram = _)
  · exact (congrArg State.mapper hr : (State.readPair _ _ _).2.mapper = _)

theorem State.placeByte_memoryOk {s : State} (h : s.memoryOk) (a : Addr) (w : Byte) : (s.placeByte a w).memoryOk := by
  obtain ⟨h1, h2, h3, h4⟩ := h
  unfold State.placeByte
  cases hr : route a
  · exact ⟨Memory.set_wf h1 _ _, Memory.set_within h2 ⟨Nat.zero_le _, ramIndex_lt a⟩ _, h3, h4⟩
  · exact ⟨h1, h2, h3, h4⟩
  · exact ⟨h1, h2, h3, h4⟩
  · exact ⟨h1, h2, h3, h4⟩
  · exact ⟨h1, h2, Memory.set_wf h3 _ _, Memory.set_within h4 ⟨(route_mapper_iff a).mp hr, a.isLt⟩ _⟩

theorem Mapper.busReset_ok {m : Mapper} (h : m.image.wf) (hw : m.image.within 0x6000 0x10000) (kind : MapperWrites) :
    (m.busReset kind).image.wf ∧ (m.busReset kind).image.within 0x6000 0x10000 := by
  cases kind
  · exact ⟨nil_wf, nil_within _ _⟩
  · exact ⟨h, hw⟩
  · exact ⟨h, hw⟩

theorem State.busReset_memoryOk {s : State} (h : s.memoryOk) : s.busReset.memoryOk :=
  ⟨nil_wf, nil_within _ _, Mapper.busReset_ok h.2.2.1 h.2.2.2 _⟩

theorem State.reset_memoryOk : State.reset.memoryOk := ⟨nil_wf, nil_within _ _, nil_wf, nil_within _ _⟩

end Sys2Proof.Machine
end

