-- ==== Sys2Proof/Laws/Operands.lean ====
section
/-! SUPPORT. Bytes and words, the zero page, and what resolution and the operand helpers can change: PERIPH's state at
most, but for a write back. -/

namespace Sys2Proof.Machine

/-! ### Bytes and words -/

theorem hiByte_toNat (w : Addr) : (hiByte w).toNat = w.toNat / 256 := by
  have h := w.isLt
  simp only [hiByte, BitVec.extractLsb'_toNat, Nat.shiftRight_eq_div_pow]
  omega

theorem loByte_toNat (w : Addr) : (loByte w).toNat = w.toNat % 256 := by
  simp [loByte, BitVec.extractLsb'_toNat]

@[simp] theorem hiByte_mkWord (high low : Byte) : hiByte (mkWord high low) = high := by
  apply BitVec.eq_of_toNat_eq
  have := low.isLt
  rw [hiByte_toNat, mkWord_toNat]
  omega

@[simp] theorem loByte_mkWord (high low : Byte) : loByte (mkWord high low) = low := by
  apply BitVec.eq_of_toNat_eq
  have := low.isLt
  rw [loByte_toNat, mkWord_toNat]
  omega

@[simp] theorem mkWord_hi_lo (w : Addr) : mkWord (hiByte w) (loByte w) = w := by
  apply BitVec.eq_of_toNat_eq
  rw [mkWord_toNat, hiByte_toNat, loByte_toNat]
  omega

theorem getLsbD_mkWord (high low : Byte) (k : Nat) :
    (mkWord high low).getLsbD k = if k < 8 then low.getLsbD k else high.getLsbD (k - 8) :=
  BitVec.getLsbD_append

/-- The successor inside the page keeps the high byte and wraps the low byte (R57). -/
theorem nextInPage_eq (a : Addr) : nextInPage a = mkWord (hiByte a) (loByte a + 1) := by
  have hlow : (a + 1) &&& 0x00FF#16 = ((loByte a + 1).setWidth 16) := by
    apply BitVec.eq_of_toNat_eq
    have h := a.isLt
    simp only [BitVec.toNat_and, BitVec.toNat_add, BitVec.toNat_setWidth, loByte_toNat]
    have : (0x00FF#16).toNat = 2 ^ 8 - 1 := by decide
    rw [this, Nat.and_two_pow_sub_one_eq_mod]
    simp
    omega
  have hhigh : a &&& 0xFF00#16 = mkWord (hiByte a) 0 := by
    apply BitVec.eq_of_getLsbD_eq
    intro k hk
    rw [getLsbD_mkWord, BitVec.getLsbD_and, hiByte, BitVec.getLsbD_extractLsb']
    interval_cases k <;> simp
  rw [nextInPage, hlow, hhigh]
  apply BitVec.eq_of_getLsbD_eq
  intro k hk
  simp only [BitVec.getLsbD_or, getLsbD_mkWord, BitVec.getLsbD_setWidth, hk, decide_true, Bool.true_and]
  split
  · simp
  · rw [BitVec.getLsbD_of_ge (loByte a + 1) k (by omega), Bool.or_false]

/-- Away from the end of a page, the successor inside the page is the successor (R57). -/
theorem nextInPage_eq_succ {a : Addr} (h : loByte a ≠ 0xFF) : nextInPage a = a + 1 := by
  rw [nextInPage_eq]
  apply BitVec.eq_of_toNat_eq
  have hlt := a.isLt
  have hne : a.toNat % 256 ≠ 255 := fun hc => h (BitVec.eq_of_toNat_eq (by rw [loByte_toNat, hc]; rfl))
  simp only [mkWord_toNat, hiByte_toNat, BitVec.toNat_add, loByte_toNat]
  simp
  omega

theorem zext16_toNat (b : Byte) : (zext16 b).toNat = b.toNat := by
  simp [zext16]
  have := b.isLt
  omega

/-- A zero-page pointer, and its successor in the page, are RAM. -/
@[simp] theorem isMemory_zext16 (b : Byte) : isMemory (zext16 b) = true := by
  have := b.isLt
  rw [isMemory_iff, route_ram_iff, zext16_toNat]
  omega

@[simp] theorem isMemory_nextInPage_zext16 (b : Byte) : isMemory (nextInPage (zext16 b)) = true := by
  have := b.isLt
  have := (loByte (zext16 b) + 1).isLt
  rw [isMemory_iff, route_ram_iff, nextInPage_eq, mkWord_toNat, hiByte_toNat, zext16_toNat]
  omega

/-- `sext_16` as a signed value (R11). -/
theorem sext16_eq (b : Byte) : sext16 b = BitVec.ofInt 16 b.toInt := by
  revert b
  decide

/-- Two addresses are on different pages when their high bytes differ (R11). -/
theorem pagesDiffer_eq (a b : Addr) : pagesDiffer a b = (hiByte a != hiByte b) := by
  have h : ∀ w : Addr, w &&& 0xFF00#16 = mkWord (hiByte w) 0 := by
    intro w
    apply BitVec.eq_of_getLsbD_eq
    intro k hk
    rw [getLsbD_mkWord, BitVec.getLsbD_and, hiByte, BitVec.getLsbD_extractLsb']
    interval_cases k <;> simp
  unfold pagesDiffer
  rw [h, h]
  by_cases hc : hiByte a = hiByte b
  · simp [hc]
  · have hne : mkWord (hiByte a) 0 ≠ mkWord (hiByte b) 0 := fun hm =>
      hc (by simpa only [hiByte_mkWord] using congrArg hiByte hm)
    rw [bne_iff_ne.mpr hc, bne_iff_ne.mpr hne]

/-- A zero-page byte is the RAM byte of that index. -/
theorem State.peek_zext16 (b : Byte) (s : State) : s.peek (zext16 b) = s.ramByte b.toNat := by
  have := b.isLt
  have hr : route (zext16 b) = .ram := by rw [route_ram_iff, zext16_toNat]; omega
  simp only [State.peek_def, hr, ramIndex, zext16_toNat]
  congr 1
  omega

/-- A zero-page pointer (R90, R91): two RAM bytes, the high one wrapping in the zero page, and no side effect. -/
theorem State.readWordWrapped_zext16 (b : Byte) (s : State) :
    s.readWordWrapped (zext16 b) = (mkWord (s.ramByte ((b.toNat + 1) % 0x100)) (s.ramByte b.toNat), s) := by
  have hn : nextInPage (zext16 b) = zext16 (b + 1) := by
    revert b
    decide
  rw [State.readWordWrapped, State.readPair_of_isMemory (isMemory_zext16 b) (isMemory_nextInPage_zext16 b), hn,
    State.peek_zext16, State.peek_zext16]
  simp

/-! ### Resolution -/

/-- Only Indirect reads a pointer that can lie in a peripheral window; every other mode leaves the state alone. -/
theorem resolve_state_of_not_indirect {o : Operand} (h : o.mode ≠ .indirect) (p : Addr) (s : State) :
    (resolve o p s).state = s := by
  cases o <;>
    simp_all [resolve, indexed, State.readWordWrapped, State.readPair_of_isMemory, Operand.mode]

/-- Resolution changes at most PERIPH's state (R83). -/
theorem resolve_state_eq (o : Operand) (p : Addr) (s : State) :
    (resolve o p s).state = { s with periph := (resolve o p s).state.periph } := by
  by_cases h : o.mode = .indirect
  · cases o <;> simp_all [Operand.mode]
    exact State.readPair_eq _ _ s
  · rw [resolve_state_of_not_indirect h]

/-- The state handed to a handler (R80 steps 4 to 7): PC advanced, the table's cycles charged, pointer reads seen by
PERIPH, nothing else. -/
theorem readyState_eq (op : Byte) (o : Operand) (s : State) :
    readyState op o s =
      { s with pc := s.pc + BitVec.ofNat 16 (optable op).length
               cycles := s.cycles + chargeOf op (resolve o s.pc s).crossed
               periph := (resolve o s.pc s).state.periph } := by
  simp only [readyState]
  rw [resolve_state_eq]
  rfl

/-- Reading an operand changes at most PERIPH's state. -/
theorem readOperand_state_eq (ctx : Ctx) (s : State) :
    (readOperand ctx s).2 = { s with periph := (readOperand ctx s).2.periph } := by
  unfold readOperand
  split
  · rfl
  · exact State.touch_eq _ s
  · exact State.touch_eq _ s

/-- Writing back changes A in Accumulator mode, the byte at `ea` otherwise (R98). -/
theorem writeback_accumulator {ctx : Ctx} (h : ctx.operand = .accumulator) (w : Byte) (s : State) :
    writeback ctx w s = s.setA w := by
  simp [writeback, h]

theorem writeback_memory {ctx : Ctx} (h : ctx.operand ≠ .accumulator) (w : Byte) (s : State) :
    writeback ctx w s = s.writeByte ctx.ea w := by
  unfold writeback
  split
  · contradiction
  · rfl

end Sys2Proof.Machine
end

