-- ==== Sys2Proof/Laws/PerInstr.lean ====
section
/-! SUPPORT. Per-instruction laws. Family Table: an instruction's entry in the opcode metadata ROM (spec/30_encoding.md
R76) carries its mnemonic and mode, its length is the number of bytes it encodes to, and the rules list the pair. -/

/-- The ROM entry at an instruction's opcode is that instruction's, and the mode belongs to the mnemonic. -/
def Sys2Proof.Laws.Table.Statement (i : Sys2Proof.Instr) : Prop :=
  (Sys2Proof.optable i.opcode).mnemonic = i.mnemonic ∧ (Sys2Proof.optable i.opcode).mode = i.operand.mode
    ∧ (Sys2Proof.optable i.opcode).length = (Sys2Proof.encode i).length ∧ i.WellFormed = true

namespace Sys2Proof.Laws.Table

theorem brk : Statement .brk := by dsimp only [Statement, Instr.opcode]; exact ⟨rfl, rfl, rfl, rfl⟩
theorem oraIzx (ptr : Byte) : Statement (.oraIzx ptr) := by dsimp only [Statement, Instr.opcode]; exact ⟨rfl, rfl, rfl, rfl⟩
theorem kil02 : Statement .kil02 := by dsimp only [Statement, Instr.opcode]; exact ⟨rfl, rfl, rfl, rfl⟩
theorem sloIzx (ptr : Byte) : Statement (.sloIzx ptr) := by dsimp only [Statement, Instr.opcode]; exact ⟨rfl, rfl, rfl, rfl⟩
theorem nopZp04 (a : Byte) : Statement (.nopZp04 a) := by dsimp only [Statement, Instr.opcode]; exact ⟨rfl, rfl, rfl, rfl⟩
theorem oraZp (a : Byte) : Statement (.oraZp a) := by dsimp only [Statement, Instr.opcode]; exact ⟨rfl, rfl, rfl, rfl⟩
theorem aslZp (a : Byte) : Statement (.aslZp a) := by dsimp only [Statement, Instr.opcode]; exact ⟨rfl, rfl, rfl, rfl⟩
theorem sloZp (a : Byte) : Statement (.sloZp a) := by dsimp only [Statement, Instr.opcode]; exact ⟨rfl, rfl, rfl, rfl⟩
theorem php : Statement .php := by dsimp only [Statement, Instr.opcode]; exact ⟨rfl, rfl, rfl, rfl⟩
theorem oraImm (v : Byte) : Statement (.oraImm v) := by dsimp only [Statement, Instr.opcode]; exact ⟨rfl, rfl, rfl, rfl⟩
theorem aslAcc : Statement .aslAcc := by dsimp only [Statement, Instr.opcode]; exact ⟨rfl, rfl, rfl, rfl⟩
theorem ancImm0B (v : Byte) : Statement (.ancImm0B v) := by dsimp only [Statement, Instr.opcode]; exact ⟨rfl, rfl, rfl, rfl⟩
theorem nopAbs (w : Addr) : Statement (.nopAbs w) := by dsimp only [Statement, Instr.opcode]; exact ⟨rfl, rfl, rfl, rfl⟩
theorem oraAbs (w : Addr) : Statement (.oraAbs w) := by dsimp only [Statement, Instr.opcode]; exact ⟨rfl, rfl, rfl, rfl⟩
theorem aslAbs (w : Addr) : Statement (.aslAbs w) := by dsimp only [Statement, Instr.opcode]; exact ⟨rfl, rfl, rfl, rfl⟩
theorem sloAbs (w : Addr) : Statement (.sloAbs w) := by dsimp only [Statement, Instr.opcode]; exact ⟨rfl, rfl, rfl, rfl⟩
theorem bpl (off : Byte) : Statement (.bpl off) := by dsimp only [Statement, Instr.opcode]; exact ⟨rfl, rfl, rfl, rfl⟩
theorem oraIzy (ptr : Byte) : Statement (.oraIzy ptr) := by dsimp only [Statement, Instr.opcode]; exact ⟨rfl, rfl, rfl, rfl⟩
theorem kil12 : Statement .kil12 := by dsimp only [Statement, Instr.opcode]; exact ⟨rfl, rfl, rfl, rfl⟩
theorem sloIzy (ptr : Byte) : Statement (.sloIzy ptr) := by dsimp only [Statement, Instr.opcode]; exact ⟨rfl, rfl, rfl, rfl⟩
theorem nopZpx14 (a : Byte) : Statement (.nopZpx14 a) := by dsimp only [Statement, Instr.opcode]; exact ⟨rfl, rfl, rfl, rfl⟩
theorem oraZpx (a : Byte) : Statement (.oraZpx a) := by dsimp only [Statement, Instr.opcode]; exact ⟨rfl, rfl, rfl, rfl⟩
theorem aslZpx (a : Byte) : Statement (.aslZpx a) := by dsimp only [Statement, Instr.opcode]; exact ⟨rfl, rfl, rfl, rfl⟩
theorem sloZpx (a : Byte) : Statement (.sloZpx a) := by dsimp only [Statement, Instr.opcode]; exact ⟨rfl, rfl, rfl, rfl⟩
theorem clc : Statement .clc := by dsimp only [Statement, Instr.opcode]; exact ⟨rfl, rfl, rfl, rfl⟩
theorem oraAby (w : Addr) : Statement (.oraAby w) := by dsimp only [Statement, Instr.opcode]; exact ⟨rfl, rfl, rfl, rfl⟩
theorem nop1A : Statement .nop1A := by dsimp only [Statement, Instr.opcode]; exact ⟨rfl, rfl, rfl, rfl⟩
theorem sloAby (w : Addr) : Statement (.sloAby w) := by dsimp only [Statement, Instr.opcode]; exact ⟨rfl, rfl, rfl, rfl⟩
theorem nopAbx1C (w : Addr) : Statement (.nopAbx1C w) := by dsimp only [Statement, Instr.opcode]; exact ⟨rfl, rfl, rfl, rfl⟩
theorem oraAbx (w : Addr) : Statement (.oraAbx w) := by dsimp only [Statement, Instr.opcode]; exact ⟨rfl, rfl, rfl, rfl⟩
theorem aslAbx (w : Addr) : Statement (.aslAbx w) := by dsimp only [Statement, Instr.opcode]; exact ⟨rfl, rfl, rfl, rfl⟩
theorem sloAbx (w : Addr) : Statement (.sloAbx w) := by dsimp only [Statement, Instr.opcode]; exact ⟨rfl, rfl, rfl, rfl⟩
theorem jsr (w : Addr) : Statement (.jsr w) := by dsimp only [Statement, Instr.opcode]; exact ⟨rfl, rfl, rfl, rfl⟩
theorem andIzx (ptr : Byte) : Statement (.andIzx ptr) := by dsimp only [Statement, Instr.opcode]; exact ⟨rfl, rfl, rfl, rfl⟩
theorem kil22 : Statement .kil22 := by dsimp only [Statement, Instr.opcode]; exact ⟨rfl, rfl, rfl, rfl⟩
theorem rlaIzx (ptr : Byte) : Statement (.rlaIzx ptr) := by dsimp only [Statement, Instr.opcode]; exact ⟨rfl, rfl, rfl, rfl⟩
theorem bitZp (a : Byte) : Statement (.bitZp a) := by dsimp only [Statement, Instr.opcode]; exact ⟨rfl, rfl, rfl, rfl⟩
theorem andZp (a : Byte) : Statement (.andZp a) := by dsimp only [Statement, Instr.opcode]; exact ⟨rfl, rfl, rfl, rfl⟩
theorem rolZp (a : Byte) : Statement (.rolZp a) := by dsimp only [Statement, Instr.opcode]; exact ⟨rfl, rfl, rfl, rfl⟩
theorem rlaZp (a : Byte) : Statement (.rlaZp a) := by dsimp only [Statement, Instr.opcode]; exact ⟨rfl, rfl, rfl, rfl⟩
theorem plp : Statement .plp := by dsimp only [Statement, Instr.opcode]; exact ⟨rfl, rfl, rfl, rfl⟩
theorem andImm (v : Byte) : Statement (.andImm v) := by dsimp only [Statement, Instr.opcode]; exact ⟨rfl, rfl, rfl, rfl⟩
theorem rolAcc : Statement .rolAcc := by dsimp only [Statement, Instr.opcode]; exact ⟨rfl, rfl, rfl, rfl⟩
theorem ancImm2B (v : Byte) : Statement (.ancImm2B v) := by dsimp only [Statement, Instr.opcode]; exact ⟨rfl, rfl, rfl, rfl⟩
theorem bitAbs (w : Addr) : Statement (.bitAbs w) := by dsimp only [Statement, Instr.opcode]; exact ⟨rfl, rfl, rfl, rfl⟩
theorem andAbs (w : Addr) : Statement (.andAbs w) := by dsimp only [Statement, Instr.opcode]; exact ⟨rfl, rfl, rfl, rfl⟩
theorem rolAbs (w : Addr) : Statement (.rolAbs w) := by dsimp only [Statement, Instr.opcode]; exact ⟨rfl, rfl, rfl, rfl⟩
theorem rlaAbs (w : Addr) : Statement (.rlaAbs w) := by dsimp only [Statement, Instr.opcode]; exact ⟨rfl, rfl, rfl, rfl⟩
theorem bmi (off : Byte) : Statement (.bmi off) := by dsimp only [Statement, Instr.opcode]; exact ⟨rfl, rfl, rfl, rfl⟩
theorem andIzy (ptr : Byte) : Statement (.andIzy ptr) := by dsimp only [Statement, Instr.opcode]; exact ⟨rfl, rfl, rfl, rfl⟩
theorem kil32 : Statement .kil32 := by dsimp only [Statement, Instr.opcode]; exact ⟨rfl, rfl, rfl, rfl⟩
theorem rlaIzy (ptr : Byte) : Statement (.rlaIzy ptr) := by dsimp only [Statement, Instr.opcode]; exact ⟨rfl, rfl, rfl, rfl⟩
theorem nopZpx34 (a : Byte) : Statement (.nopZpx34 a) := by dsimp only [Statement, Instr.opcode]; exact ⟨rfl, rfl, rfl, rfl⟩
theorem andZpx (a : Byte) : Statement (.andZpx a) := by dsimp only [Statement, Instr.opcode]; exact ⟨rfl, rfl, rfl, rfl⟩
theorem rolZpx (a : Byte) : Statement (.rolZpx a) := by dsimp only [Statement, Instr.opcode]; exact ⟨rfl, rfl, rfl, rfl⟩
theorem rlaZpx (a : Byte) : Statement (.rlaZpx a) := by dsimp only [Statement, Instr.opcode]; exact ⟨rfl, rfl, rfl, rfl⟩
theorem sec : Statement .sec := by dsimp only [Statement, Instr.opcode]; exact ⟨rfl, rfl, rfl, rfl⟩
theorem andAby (w : Addr) : Statement (.andAby w) := by dsimp only [Statement, Instr.opcode]; exact ⟨rfl, rfl, rfl, rfl⟩
theorem nop3A : Statement .nop3A := by dsimp only [Statement, Instr.opcode]; exact ⟨rfl, rfl, rfl, rfl⟩
theorem rlaAby (w : Addr) : Statement (.rlaAby w) := by dsimp only [Statement, Instr.opcode]; exact ⟨rfl, rfl, rfl, rfl⟩
theorem nopAbx3C (w : Addr) : Statement (.nopAbx3C w) := by dsimp only [Statement, Instr.opcode]; exact ⟨rfl, rfl, rfl, rfl⟩
theorem andAbx (w : Addr) : Statement (.andAbx w) := by dsimp only [Statement, Instr.opcode]; exact ⟨rfl, rfl, rfl, rfl⟩
theorem rolAbx (w : Addr) : Statement (.rolAbx w) := by dsimp only [Statement, Instr.opcode]; exact ⟨rfl, rfl, rfl, rfl⟩
theorem rlaAbx (w : Addr) : Statement (.rlaAbx w) := by dsimp only [Statement, Instr.opcode]; exact ⟨rfl, rfl, rfl, rfl⟩
theorem rti : Statement .rti := by dsimp only [Statement, Instr.opcode]; exact ⟨rfl, rfl, rfl, rfl⟩
theorem eorIzx (ptr : Byte) : Statement (.eorIzx ptr) := by dsimp only [Statement, Instr.opcode]; exact ⟨rfl, rfl, rfl, rfl⟩
theorem kil42 : Statement .kil42 := by dsimp only [Statement, Instr.opcode]; exact ⟨rfl, rfl, rfl, rfl⟩
theorem sreIzx (ptr : Byte) : Statement (.sreIzx ptr) := by dsimp only [Statement, Instr.opcode]; exact ⟨rfl, rfl, rfl, rfl⟩
theorem nopZp44 (a : Byte) : Statement (.nopZp44 a) := by dsimp only [Statement, Instr.opcode]; exact ⟨rfl, rfl, rfl, rfl⟩
theorem eorZp (a : Byte) : Statement (.eorZp a) := by dsimp only [Statement, Instr.opcode]; exact ⟨rfl, rfl, rfl, rfl⟩
theorem lsrZp (a : Byte) : Statement (.lsrZp a) := by dsimp only [Statement, Instr.opcode]; exact ⟨rfl, rfl, rfl, rfl⟩
theorem sreZp (a : Byte) : Statement (.sreZp a) := by dsimp only [Statement, Instr.opcode]; exact ⟨rfl, rfl, rfl, rfl⟩
theorem pha : Statement .pha := by dsimp only [Statement, Instr.opcode]; exact ⟨rfl, rfl, rfl, rfl⟩
theorem eorImm (v : Byte) : Statement (.eorImm v) := by dsimp only [Statement, Instr.opcode]; exact ⟨rfl, rfl, rfl, rfl⟩
theorem lsrAcc : Statement .lsrAcc := by dsimp only [Statement, Instr.opcode]; exact ⟨rfl, rfl, rfl, rfl⟩
theorem alr (v : Byte) : Statement (.alr v) := by dsimp only [Statement, Instr.opcode]; exact ⟨rfl, rfl, rfl, rfl⟩
theorem jmpAbs (w : Addr) : Statement (.jmpAbs w) := by dsimp only [Statement, Instr.opcode]; exact ⟨rfl, rfl, rfl, rfl⟩
theorem eorAbs (w : Addr) : Statement (.eorAbs w) := by dsimp only [Statement, Instr.opcode]; exact ⟨rfl, rfl, rfl, rfl⟩
theorem lsrAbs (w : Addr) : Statement (.lsrAbs w) := by dsimp only [Statement, Instr.opcode]; exact ⟨rfl, rfl, rfl, rfl⟩
theorem sreAbs (w : Addr) : Statement (.sreAbs w) := by dsimp only [Statement, Instr.opcode]; exact ⟨rfl, rfl, rfl, rfl⟩
theorem bvc (off : Byte) : Statement (.bvc off) := by dsimp only [Statement, Instr.opcode]; exact ⟨rfl, rfl, rfl, rfl⟩
theorem eorIzy (ptr : Byte) : Statement (.eorIzy ptr) := by dsimp only [Statement, Instr.opcode]; exact ⟨rfl, rfl, rfl, rfl⟩
theorem kil52 : Statement .kil52 := by dsimp only [Statement, Instr.opcode]; exact ⟨rfl, rfl, rfl, rfl⟩
theorem sreIzy (ptr : Byte) : Statement (.sreIzy ptr) := by dsimp only [Statement, Instr.opcode]; exact ⟨rfl, rfl, rfl, rfl⟩
theorem nopZpx54 (a : Byte) : Statement (.nopZpx54 a) := by dsimp only [Statement, Instr.opcode]; exact ⟨rfl, rfl, rfl, rfl⟩
theorem eorZpx (a : Byte) : Statement (.eorZpx a) := by dsimp only [Statement, Instr.opcode]; exact ⟨rfl, rfl, rfl, rfl⟩
theorem lsrZpx (a : Byte) : Statement (.lsrZpx a) := by dsimp only [Statement, Instr.opcode]; exact ⟨rfl, rfl, rfl, rfl⟩
theorem sreZpx (a : Byte) : Statement (.sreZpx a) := by dsimp only [Statement, Instr.opcode]; exact ⟨rfl, rfl, rfl, rfl⟩
theorem cli : Statement .cli := by dsimp only [Statement, Instr.opcode]; exact ⟨rfl, rfl, rfl, rfl⟩
theorem eorAby (w : Addr) : Statement (.eorAby w) := by dsimp only [Statement, Instr.opcode]; exact ⟨rfl, rfl, rfl, rfl⟩
theorem nop5A : Statement .nop5A := by dsimp only [Statement, Instr.opcode]; exact ⟨rfl, rfl, rfl, rfl⟩
theorem sreAby (w : Addr) : Statement (.sreAby w) := by dsimp only [Statement, Instr.opcode]; exact ⟨rfl, rfl, rfl, rfl⟩
theorem nopAbx5C (w : Addr) : Statement (.nopAbx5C w) := by dsimp only [Statement, Instr.opcode]; exact ⟨rfl, rfl, rfl, rfl⟩
theorem eorAbx (w : Addr) : Statement (.eorAbx w) := by dsimp only [Statement, Instr.opcode]; exact ⟨rfl, rfl, rfl, rfl⟩
theorem lsrAbx (w : Addr) : Statement (.lsrAbx w) := by dsimp only [Statement, Instr.opcode]; exact ⟨rfl, rfl, rfl, rfl⟩
theorem sreAbx (w : Addr) : Statement (.sreAbx w) := by dsimp only [Statement, Instr.opcode]; exact ⟨rfl, rfl, rfl, rfl⟩
theorem rts : Statement .rts := by dsimp only [Statement, Instr.opcode]; exact ⟨rfl, rfl, rfl, rfl⟩
theorem adcIzx (ptr : Byte) : Statement (.adcIzx ptr) := by dsimp only [Statement, Instr.opcode]; exact ⟨rfl, rfl, rfl, rfl⟩
theorem kil62 : Statement .kil62 := by dsimp only [Statement, Instr.opcode]; exact ⟨rfl, rfl, rfl, rfl⟩
theorem rraIzx (ptr : Byte) : Statement (.rraIzx ptr) := by dsimp only [Statement, Instr.opcode]; exact ⟨rfl, rfl, rfl, rfl⟩
theorem nopZp64 (a : Byte) : Statement (.nopZp64 a) := by dsimp only [Statement, Instr.opcode]; exact ⟨rfl, rfl, rfl, rfl⟩
theorem adcZp (a : Byte) : Statement (.adcZp a) := by dsimp only [Statement, Instr.opcode]; exact ⟨rfl, rfl, rfl, rfl⟩
theorem rorZp (a : Byte) : Statement (.rorZp a) := by dsimp only [Statement, Instr.opcode]; exact ⟨rfl, rfl, rfl, rfl⟩
theorem rraZp (a : Byte) : Statement (.rraZp a) := by dsimp only [Statement, Instr.opcode]; exact ⟨rfl, rfl, rfl, rfl⟩
theorem pla : Statement .pla := by dsimp only [Statement, Instr.opcode]; exact ⟨rfl, rfl, rfl, rfl⟩
theorem adcImm (v : Byte) : Statement (.adcImm v) := by dsimp only [Statement, Instr.opcode]; exact ⟨rfl, rfl, rfl, rfl⟩
theorem rorAcc : Statement .rorAcc := by dsimp only [Statement, Instr.opcode]; exact ⟨rfl, rfl, rfl, rfl⟩
theorem arr (v : Byte) : Statement (.arr v) := by dsimp only [Statement, Instr.opcode]; exact ⟨rfl, rfl, rfl, rfl⟩
theorem jmpInd (w : Addr) : Statement (.jmpInd w) := by dsimp only [Statement, Instr.opcode]; exact ⟨rfl, rfl, rfl, rfl⟩
theorem adcAbs (w : Addr) : Statement (.adcAbs w) := by dsimp only [Statement, Instr.opcode]; exact ⟨rfl, rfl, rfl, rfl⟩
theorem rorAbs (w : Addr) : Statement (.rorAbs w) := by dsimp only [Statement, Instr.opcode]; exact ⟨rfl, rfl, rfl, rfl⟩
theorem rraAbs (w : Addr) : Statement (.rraAbs w) := by dsimp only [Statement, Instr.opcode]; exact ⟨rfl, rfl, rfl, rfl⟩
theorem bvs (off : Byte) : Statement (.bvs off) := by dsimp only [Statement, Instr.opcode]; exact ⟨rfl, rfl, rfl, rfl⟩
theorem adcIzy (ptr : Byte) : Statement (.adcIzy ptr) := by dsimp only [Statement, Instr.opcode]; exact ⟨rfl, rfl, rfl, rfl⟩
theorem kil72 : Statement .kil72 := by dsimp only [Statement, Instr.opcode]; exact ⟨rfl, rfl, rfl, rfl⟩
theorem rraIzy (ptr : Byte) : Statement (.rraIzy ptr) := by dsimp only [Statement, Instr.opcode]; exact ⟨rfl, rfl, rfl, rfl⟩
theorem nopZpx74 (a : Byte) : Statement (.nopZpx74 a) := by dsimp only [Statement, Instr.opcode]; exact ⟨rfl, rfl, rfl, rfl⟩
theorem adcZpx (a : Byte) : Statement (.adcZpx a) := by dsimp only [Statement, Instr.opcode]; exact ⟨rfl, rfl, rfl, rfl⟩
theorem rorZpx (a : Byte) : Statement (.rorZpx a) := by dsimp only [Statement, Instr.opcode]; exact ⟨rfl, rfl, rfl, rfl⟩
theorem rraZpx (a : Byte) : Statement (.rraZpx a) := by dsimp only [Statement, Instr.opcode]; exact ⟨rfl, rfl, rfl, rfl⟩
theorem sei : Statement .sei := by dsimp only [Statement, Instr.opcode]; exact ⟨rfl, rfl, rfl, rfl⟩
theorem adcAby (w : Addr) : Statement (.adcAby w) := by dsimp only [Statement, Instr.opcode]; exact ⟨rfl, rfl, rfl, rfl⟩
theorem nop7A : Statement .nop7A := by dsimp only [Statement, Instr.opcode]; exact ⟨rfl, rfl, rfl, rfl⟩
theorem rraAby (w : Addr) : Statement (.rraAby w) := by dsimp only [Statement, Instr.opcode]; exact ⟨rfl, rfl, rfl, rfl⟩
theorem nopAbx7C (w : Addr) : Statement (.nopAbx7C w) := by dsimp only [Statement, Instr.opcode]; exact ⟨rfl, rfl, rfl, rfl⟩
theorem adcAbx (w : Addr) : Statement (.adcAbx w) := by dsimp only [Statement, Instr.opcode]; exact ⟨rfl, rfl, rfl, rfl⟩
theorem rorAbx (w : Addr) : Statement (.rorAbx w) := by dsimp only [Statement, Instr.opcode]; exact ⟨rfl, rfl, rfl, rfl⟩
theorem rraAbx (w : Addr) : Statement (.rraAbx w) := by dsimp only [Statement, Instr.opcode]; exact ⟨rfl, rfl, rfl, rfl⟩
theorem nopImm80 (v : Byte) : Statement (.nopImm80 v) := by dsimp only [Statement, Instr.opcode]; exact ⟨rfl, rfl, rfl, rfl⟩
theorem staIzx (ptr : Byte) : Statement (.staIzx ptr) := by dsimp only [Statement, Instr.opcode]; exact ⟨rfl, rfl, rfl, rfl⟩
theorem nopImm82 (v : Byte) : Statement (.nopImm82 v) := by dsimp only [Statement, Instr.opcode]; exact ⟨rfl, rfl, rfl, rfl⟩
theorem saxIzx (ptr : Byte) : Statement (.saxIzx ptr) := by dsimp only [Statement, Instr.opcode]; exact ⟨rfl, rfl, rfl, rfl⟩
theorem styZp (a : Byte) : Statement (.styZp a) := by dsimp only [Statement, Instr.opcode]; exact ⟨rfl, rfl, rfl, rfl⟩
theorem staZp (a : Byte) : Statement (.staZp a) := by dsimp only [Statement, Instr.opcode]; exact ⟨rfl, rfl, rfl, rfl⟩
theorem stxZp (a : Byte) : Statement (.stxZp a) := by dsimp only [Statement, Instr.opcode]; exact ⟨rfl, rfl, rfl, rfl⟩
theorem saxZp (a : Byte) : Statement (.saxZp a) := by dsimp only [Statement, Instr.opcode]; exact ⟨rfl, rfl, rfl, rfl⟩
theorem dey : Statement .dey := by dsimp only [Statement, Instr.opcode]; exact ⟨rfl, rfl, rfl, rfl⟩
theorem nopImm89 (v : Byte) : Statement (.nopImm89 v) := by dsimp only [Statement, Instr.opcode]; exact ⟨rfl, rfl, rfl, rfl⟩
theorem txa : Statement .txa := by dsimp only [Statement, Instr.opcode]; exact ⟨rfl, rfl, rfl, rfl⟩
theorem xaa (v : Byte) : Statement (.xaa v) := by dsimp only [Statement, Instr.opcode]; exact ⟨rfl, rfl, rfl, rfl⟩
theorem styAbs (w : Addr) : Statement (.styAbs w) := by dsimp only [Statement, Instr.opcode]; exact ⟨rfl, rfl, rfl, rfl⟩
theorem staAbs (w : Addr) : Statement (.staAbs w) := by dsimp only [Statement, Instr.opcode]; exact ⟨rfl, rfl, rfl, rfl⟩
theorem stxAbs (w : Addr) : Statement (.stxAbs w) := by dsimp only [Statement, Instr.opcode]; exact ⟨rfl, rfl, rfl, rfl⟩
theorem saxAbs (w : Addr) : Statement (.saxAbs w) := by dsimp only [Statement, Instr.opcode]; exact ⟨rfl, rfl, rfl, rfl⟩
theorem bcc (off : Byte) : Statement (.bcc off) := by dsimp only [Statement, Instr.opcode]; exact ⟨rfl, rfl, rfl, rfl⟩
theorem staIzy (ptr : Byte) : Statement (.staIzy ptr) := by dsimp only [Statement, Instr.opcode]; exact ⟨rfl, rfl, rfl, rfl⟩
theorem kil92 : Statement .kil92 := by dsimp only [Statement, Instr.opcode]; exact ⟨rfl, rfl, rfl, rfl⟩
theorem ahxIzy (ptr : Byte) : Statement (.ahxIzy ptr) := by dsimp only [Statement, Instr.opcode]; exact ⟨rfl, rfl, rfl, rfl⟩
theorem styZpx (a : Byte) : Statement (.styZpx a) := by dsimp only [Statement, Instr.opcode]; exact ⟨rfl, rfl, rfl, rfl⟩
theorem staZpx (a : Byte) : Statement (.staZpx a) := by dsimp only [Statement, Instr.opcode]; exact ⟨rfl, rfl, rfl, rfl⟩
theorem stxZpy (a : Byte) : Statement (.stxZpy a) := by dsimp only [Statement, Instr.opcode]; exact ⟨rfl, rfl, rfl, rfl⟩
theorem saxZpy (a : Byte) : Statement (.saxZpy a) := by dsimp only [Statement, Instr.opcode]; exact ⟨rfl, rfl, rfl, rfl⟩
theorem tya : Statement .tya := by dsimp only [Statement, Instr.opcode]; exact ⟨rfl, rfl, rfl, rfl⟩
theorem staAby (w : Addr) : Statement (.staAby w) := by dsimp only [Statement, Instr.opcode]; exact ⟨rfl, rfl, rfl, rfl⟩
theorem txs : Statement .txs := by dsimp only [Statement, Instr.opcode]; exact ⟨rfl, rfl, rfl, rfl⟩
theorem tas (w : Addr) : Statement (.tas w) := by dsimp only [Statement, Instr.opcode]; exact ⟨rfl, rfl, rfl, rfl⟩
theorem shy (w : Addr) : Statement (.shy w) := by dsimp only [Statement, Instr.opcode]; exact ⟨rfl, rfl, rfl, rfl⟩
theorem staAbx (w : Addr) : Statement (.staAbx w) := by dsimp only [Statement, Instr.opcode]; exact ⟨rfl, rfl, rfl, rfl⟩
theorem shx (w : Addr) : Statement (.shx w) := by dsimp only [Statement, Instr.opcode]; exact ⟨rfl, rfl, rfl, rfl⟩
theorem ahxAby (w : Addr) : Statement (.ahxAby w) := by dsimp only [Statement, Instr.opcode]; exact ⟨rfl, rfl, rfl, rfl⟩
theorem ldyImm (v : Byte) : Statement (.ldyImm v) := by dsimp only [Statement, Instr.opcode]; exact ⟨rfl, rfl, rfl, rfl⟩
theorem ldaIzx (ptr : Byte) : Statement (.ldaIzx ptr) := by dsimp only [Statement, Instr.opcode]; exact ⟨rfl, rfl, rfl, rfl⟩
theorem ldxImm (v : Byte) : Statement (.ldxImm v) := by dsimp only [Statement, Instr.opcode]; exact ⟨rfl, rfl, rfl, rfl⟩
theorem laxIzx (ptr : Byte) : Statement (.laxIzx ptr) := by dsimp only [Statement, Instr.opcode]; exact ⟨rfl, rfl, rfl, rfl⟩
theorem ldyZp (a : Byte) : Statement (.ldyZp a) := by dsimp only [Statement, Instr.opcode]; exact ⟨rfl, rfl, rfl, rfl⟩
theorem ldaZp (a : Byte) : Statement (.ldaZp a) := by dsimp only [Statement, Instr.opcode]; exact ⟨rfl, rfl, rfl, rfl⟩
theorem ldxZp (a : Byte) : Statement (.ldxZp a) := by dsimp only [Statement, Instr.opcode]; exact ⟨rfl, rfl, rfl, rfl⟩
theorem laxZp (a : Byte) : Statement (.laxZp a) := by dsimp only [Statement, Instr.opcode]; exact ⟨rfl, rfl, rfl, rfl⟩
theorem tay : Statement .tay := by dsimp only [Statement, Instr.opcode]; exact ⟨rfl, rfl, rfl, rfl⟩
theorem ldaImm (v : Byte) : Statement (.ldaImm v) := by dsimp only [Statement, Instr.opcode]; exact ⟨rfl, rfl, rfl, rfl⟩
theorem tax : Statement .tax := by dsimp only [Statement, Instr.opcode]; exact ⟨rfl, rfl, rfl, rfl⟩
theorem laxImm (v : Byte) : Statement (.laxImm v) := by dsimp only [Statement, Instr.opcode]; exact ⟨rfl, rfl, rfl, rfl⟩
theorem ldyAbs (w : Addr) : Statement (.ldyAbs w) := by dsimp only [Statement, Instr.opcode]; exact ⟨rfl, rfl, rfl, rfl⟩
theorem ldaAbs (w : Addr) : Statement (.ldaAbs w) := by dsimp only [Statement, Instr.opcode]; exact ⟨rfl, rfl, rfl, rfl⟩
theorem ldxAbs (w : Addr) : Statement (.ldxAbs w) := by dsimp only [Statement, Instr.opcode]; exact ⟨rfl, rfl, rfl, rfl⟩
theorem laxAbs (w : Addr) : Statement (.laxAbs w) := by dsimp only [Statement, Instr.opcode]; exact ⟨rfl, rfl, rfl, rfl⟩
theorem bcs (off : Byte) : Statement (.bcs off) := by dsimp only [Statement, Instr.opcode]; exact ⟨rfl, rfl, rfl, rfl⟩
theorem ldaIzy (ptr : Byte) : Statement (.ldaIzy ptr) := by dsimp only [Statement, Instr.opcode]; exact ⟨rfl, rfl, rfl, rfl⟩
theorem kilB2 : Statement .kilB2 := by dsimp only [Statement, Instr.opcode]; exact ⟨rfl, rfl, rfl, rfl⟩
theorem laxIzy (ptr : Byte) : Statement (.laxIzy ptr) := by dsimp only [Statement, Instr.opcode]; exact ⟨rfl, rfl, rfl, rfl⟩
theorem ldyZpx (a : Byte) : Statement (.ldyZpx a) := by dsimp only [Statement, Instr.opcode]; exact ⟨rfl, rfl, rfl, rfl⟩
theorem ldaZpx (a : Byte) : Statement (.ldaZpx a) := by dsimp only [Statement, Instr.opcode]; exact ⟨rfl, rfl, rfl, rfl⟩
theorem ldxZpy (a : Byte) : Statement (.ldxZpy a) := by dsimp only [Statement, Instr.opcode]; exact ⟨rfl, rfl, rfl, rfl⟩
theorem laxZpy (a : Byte) : Statement (.laxZpy a) := by dsimp only [Statement, Instr.opcode]; exact ⟨rfl, rfl, rfl, rfl⟩
theorem clv : Statement .clv := by dsimp only [Statement, Instr.opcode]; exact ⟨rfl, rfl, rfl, rfl⟩
theorem ldaAby (w : Addr) : Statement (.ldaAby w) := by dsimp only [Statement, Instr.opcode]; exact ⟨rfl, rfl, rfl, rfl⟩
theorem tsx : Statement .tsx := by dsimp only [Statement, Instr.opcode]; exact ⟨rfl, rfl, rfl, rfl⟩
theorem las (w : Addr) : Statement (.las w) := by dsimp only [Statement, Instr.opcode]; exact ⟨rfl, rfl, rfl, rfl⟩
theorem ldyAbx (w : Addr) : Statement (.ldyAbx w) := by dsimp only [Statement, Instr.opcode]; exact ⟨rfl, rfl, rfl, rfl⟩
theorem ldaAbx (w : Addr) : Statement (.ldaAbx w) := by dsimp only [Statement, Instr.opcode]; exact ⟨rfl, rfl, rfl, rfl⟩
theorem ldxAby (w : Addr) : Statement (.ldxAby w) := by dsimp only [Statement, Instr.opcode]; exact ⟨rfl, rfl, rfl, rfl⟩
theorem laxAby (w : Addr) : Statement (.laxAby w) := by dsimp only [Statement, Instr.opcode]; exact ⟨rfl, rfl, rfl, rfl⟩
theorem cpyImm (v : Byte) : Statement (.cpyImm v) := by dsimp only [Statement, Instr.opcode]; exact ⟨rfl, rfl, rfl, rfl⟩
theorem cmpIzx (ptr : Byte) : Statement (.cmpIzx ptr) := by dsimp only [Statement, Instr.opcode]; exact ⟨rfl, rfl, rfl, rfl⟩
theorem nopImmC2 (v : Byte) : Statement (.nopImmC2 v) := by dsimp only [Statement, Instr.opcode]; exact ⟨rfl, rfl, rfl, rfl⟩
theorem dcpIzx (ptr : Byte) : Statement (.dcpIzx ptr) := by dsimp only [Statement, Instr.opcode]; exact ⟨rfl, rfl, rfl, rfl⟩
theorem cpyZp (a : Byte) : Statement (.cpyZp a) := by dsimp only [Statement, Instr.opcode]; exact ⟨rfl, rfl, rfl, rfl⟩
theorem cmpZp (a : Byte) : Statement (.cmpZp a) := by dsimp only [Statement, Instr.opcode]; exact ⟨rfl, rfl, rfl, rfl⟩
theorem decZp (a : Byte) : Statement (.decZp a) := by dsimp only [Statement, Instr.opcode]; exact ⟨rfl, rfl, rfl, rfl⟩
theorem dcpZp (a : Byte) : Statement (.dcpZp a) := by dsimp only [Statement, Instr.opcode]; exact ⟨rfl, rfl, rfl, rfl⟩
theorem iny : Statement .iny := by dsimp only [Statement, Instr.opcode]; exact ⟨rfl, rfl, rfl, rfl⟩
theorem cmpImm (v : Byte) : Statement (.cmpImm v) := by dsimp only [Statement, Instr.opcode]; exact ⟨rfl, rfl, rfl, rfl⟩
theorem dex : Statement .dex := by dsimp only [Statement, Instr.opcode]; exact ⟨rfl, rfl, rfl, rfl⟩
theorem axs (v : Byte) : Statement (.axs v) := by dsimp only [Statement, Instr.opcode]; exact ⟨rfl, rfl, rfl, rfl⟩
theorem cpyAbs (w : Addr) : Statement (.cpyAbs w) := by dsimp only [Statement, Instr.opcode]; exact ⟨rfl, rfl, rfl, rfl⟩
theorem cmpAbs (w : Addr) : Statement (.cmpAbs w) := by dsimp only [Statement, Instr.opcode]; exact ⟨rfl, rfl, rfl, rfl⟩
theorem decAbs (w : Addr) : Statement (.decAbs w) := by dsimp only [Statement, Instr.opcode]; exact ⟨rfl, rfl, rfl, rfl⟩
theorem dcpAbs (w : Addr) : Statement (.dcpAbs w) := by dsimp only [Statement, Instr.opcode]; exact ⟨rfl, rfl, rfl, rfl⟩
theorem bne (off : Byte) : Statement (.bne off) := by dsimp only [Statement, Instr.opcode]; exact ⟨rfl, rfl, rfl, rfl⟩
theorem cmpIzy (ptr : Byte) : Statement (.cmpIzy ptr) := by dsimp only [Statement, Instr.opcode]; exact ⟨rfl, rfl, rfl, rfl⟩
theorem kilD2 : Statement .kilD2 := by dsimp only [Statement, Instr.opcode]; exact ⟨rfl, rfl, rfl, rfl⟩
theorem dcpIzy (ptr : Byte) : Statement (.dcpIzy ptr) := by dsimp only [Statement, Instr.opcode]; exact ⟨rfl, rfl, rfl, rfl⟩
theorem nopZpxD4 (a : Byte) : Statement (.nopZpxD4 a) := by dsimp only [Statement, Instr.opcode]; exact ⟨rfl, rfl, rfl, rfl⟩
theorem cmpZpx (a : Byte) : Statement (.cmpZpx a) := by dsimp only [Statement, Instr.opcode]; exact ⟨rfl, rfl, rfl, rfl⟩
theorem decZpx (a : Byte) : Statement (.decZpx a) := by dsimp only [Statement, Instr.opcode]; exact ⟨rfl, rfl, rfl, rfl⟩
theorem dcpZpx (a : Byte) : Statement (.dcpZpx a) := by dsimp only [Statement, Instr.opcode]; exact ⟨rfl, rfl, rfl, rfl⟩
theorem cld : Statement .cld := by dsimp only [Statement, Instr.opcode]; exact ⟨rfl, rfl, rfl, rfl⟩
theorem cmpAby (w : Addr) : Statement (.cmpAby w) := by dsimp only [Statement, Instr.opcode]; exact ⟨rfl, rfl, rfl, rfl⟩
theorem nopDA : Statement .nopDA := by dsimp only [Statement, Instr.opcode]; exact ⟨rfl, rfl, rfl, rfl⟩
theorem dcpAby (w : Addr) : Statement (.dcpAby w) := by dsimp only [Statement, Instr.opcode]; exact ⟨rfl, rfl, rfl, rfl⟩
theorem nopAbxDC (w : Addr) : Statement (.nopAbxDC w) := by dsimp only [Statement, Instr.opcode]; exact ⟨rfl, rfl, rfl, rfl⟩
theorem cmpAbx (w : Addr) : Statement (.cmpAbx w) := by dsimp only [Statement, Instr.opcode]; exact ⟨rfl, rfl, rfl, rfl⟩
theorem decAbx (w : Addr) : Statement (.decAbx w) := by dsimp only [Statement, Instr.opcode]; exact ⟨rfl, rfl, rfl, rfl⟩
theorem dcpAbx (w : Addr) : Statement (.dcpAbx w) := by dsimp only [Statement, Instr.opcode]; exact ⟨rfl, rfl, rfl, rfl⟩
theorem cpxImm (v : Byte) : Statement (.cpxImm v) := by dsimp only [Statement, Instr.opcode]; exact ⟨rfl, rfl, rfl, rfl⟩
theorem sbcIzx (ptr : Byte) : Statement (.sbcIzx ptr) := by dsimp only [Statement, Instr.opcode]; exact ⟨rfl, rfl, rfl, rfl⟩
theorem nopImmE2 (v : Byte) : Statement (.nopImmE2 v) := by dsimp only [Statement, Instr.opcode]; exact ⟨rfl, rfl, rfl, rfl⟩
theorem iscIzx (ptr : Byte) : Statement (.iscIzx ptr) := by dsimp only [Statement, Instr.opcode]; exact ⟨rfl, rfl, rfl, rfl⟩
theorem cpxZp (a : Byte) : Statement (.cpxZp a) := by dsimp only [Statement, Instr.opcode]; exact ⟨rfl, rfl, rfl, rfl⟩
theorem sbcZp (a : Byte) : Statement (.sbcZp a) := by dsimp only [Statement, Instr.opcode]; exact ⟨rfl, rfl, rfl, rfl⟩
theorem incZp (a : Byte) : Statement (.incZp a) := by dsimp only [Statement, Instr.opcode]; exact ⟨rfl, rfl, rfl, rfl⟩
theorem iscZp (a : Byte) : Statement (.iscZp a) := by dsimp only [Statement, Instr.opcode]; exact ⟨rfl, rfl, rfl, rfl⟩
theorem inx : Statement .inx := by dsimp only [Statement, Instr.opcode]; exact ⟨rfl, rfl, rfl, rfl⟩
theorem sbcImm (v : Byte) : Statement (.sbcImm v) := by dsimp only [Statement, Instr.opcode]; exact ⟨rfl, rfl, rfl, rfl⟩
theorem nop : Statement .nop := by dsimp only [Statement, Instr.opcode]; exact ⟨rfl, rfl, rfl, rfl⟩
theorem sbcImmEB (v : Byte) : Statement (.sbcImmEB v) := by dsimp only [Statement, Instr.opcode]; exact ⟨rfl, rfl, rfl, rfl⟩
theorem cpxAbs (w : Addr) : Statement (.cpxAbs w) := by dsimp only [Statement, Instr.opcode]; exact ⟨rfl, rfl, rfl, rfl⟩
theorem sbcAbs (w : Addr) : Statement (.sbcAbs w) := by dsimp only [Statement, Instr.opcode]; exact ⟨rfl, rfl, rfl, rfl⟩
theorem incAbs (w : Addr) : Statement (.incAbs w) := by dsimp only [Statement, Instr.opcode]; exact ⟨rfl, rfl, rfl, rfl⟩
theorem iscAbs (w : Addr) : Statement (.iscAbs w) := by dsimp only [Statement, Instr.opcode]; exact ⟨rfl, rfl, rfl, rfl⟩
theorem beq (off : Byte) : Statement (.beq off) := by dsimp only [Statement, Instr.opcode]; exact ⟨rfl, rfl, rfl, rfl⟩
theorem sbcIzy (ptr : Byte) : Statement (.sbcIzy ptr) := by dsimp only [Statement, Instr.opcode]; exact ⟨rfl, rfl, rfl, rfl⟩
theorem kilF2 : Statement .kilF2 := by dsimp only [Statement, Instr.opcode]; exact ⟨rfl, rfl, rfl, rfl⟩
theorem iscIzy (ptr : Byte) : Statement (.iscIzy ptr) := by dsimp only [Statement, Instr.opcode]; exact ⟨rfl, rfl, rfl, rfl⟩
theorem nopZpxF4 (a : Byte) : Statement (.nopZpxF4 a) := by dsimp only [Statement, Instr.opcode]; exact ⟨rfl, rfl, rfl, rfl⟩
theorem sbcZpx (a : Byte) : Statement (.sbcZpx a) := by dsimp only [Statement, Instr.opcode]; exact ⟨rfl, rfl, rfl, rfl⟩
theorem incZpx (a : Byte) : Statement (.incZpx a) := by dsimp only [Statement, Instr.opcode]; exact ⟨rfl, rfl, rfl, rfl⟩
theorem iscZpx (a : Byte) : Statement (.iscZpx a) := by dsimp only [Statement, Instr.opcode]; exact ⟨rfl, rfl, rfl, rfl⟩
theorem sed : Statement .sed := by dsimp only [Statement, Instr.opcode]; exact ⟨rfl, rfl, rfl, rfl⟩
theorem sbcAby (w : Addr) : Statement (.sbcAby w) := by dsimp only [Statement, Instr.opcode]; exact ⟨rfl, rfl, rfl, rfl⟩
theorem nopFA : Statement .nopFA := by dsimp only [Statement, Instr.opcode]; exact ⟨rfl, rfl, rfl, rfl⟩
theorem iscAby (w : Addr) : Statement (.iscAby w) := by dsimp only [Statement, Instr.opcode]; exact ⟨rfl, rfl, rfl, rfl⟩
theorem nopAbxFC (w : Addr) : Statement (.nopAbxFC w) := by dsimp only [Statement, Instr.opcode]; exact ⟨rfl, rfl, rfl, rfl⟩
theorem sbcAbx (w : Addr) : Statement (.sbcAbx w) := by dsimp only [Statement, Instr.opcode]; exact ⟨rfl, rfl, rfl, rfl⟩
theorem incAbx (w : Addr) : Statement (.incAbx w) := by dsimp only [Statement, Instr.opcode]; exact ⟨rfl, rfl, rfl, rfl⟩
theorem iscAbx (w : Addr) : Statement (.iscAbx w) := by dsimp only [Statement, Instr.opcode]; exact ⟨rfl, rfl, rfl, rfl⟩

/-- The family, for every instruction. -/
theorem all (i : Instr) : Statement i := by
  cases i <;> (dsimp only [Statement, Instr.opcode]; exact ⟨rfl, rfl, rfl, rfl⟩)

end Sys2Proof.Laws.Table
end

