-- ==== Sys2Proof/Laws/Decode.lean ====
section
/-! SUPPORT. The decoder: every opcode byte gives the instruction of its slot, and an instruction's own bytes give it back,
whatever follows them. -/

namespace Sys2Proof

/-- A property of all bytes, from its 256 values. -/
theorem byte_cases {P : Byte → Prop} (h : ∀ k < 256, P (BitVec.ofNat 8 k)) (op : Byte) : P op := by
  simpa using h op.toNat op.isLt

/-- The instruction read at an opcode byte has that opcode (R74). -/
@[simp] theorem opcode_decodeOp (op b1 b2 : Byte) : (decodeOp op b1 b2).opcode = op := by
  refine byte_cases (P := fun op => (decodeOp op b1 b2).opcode = op) (fun k hk => ?_) op
  simp only [decodeOp, BitVec.toNat_ofNat]
  interval_cases k <;> (simp only [Nat.reducePow, Nat.reduceMod, Nat.reduceDiv]; rfl)

/-- Its operand bytes are the first of those the decoder was given, as many as its length says (R71, R72). -/
theorem bytes_decodeOp (op b1 b2 : Byte) :
    (decodeOp op b1 b2).operand.bytes = [b1, b2].take ((optable op).length - 1) := by
  refine byte_cases
    (P := fun op => (decodeOp op b1 b2).operand.bytes = [b1, b2].take ((optable op).length - 1)) (fun k hk => ?_) op
  simp only [decodeOp, optable, BitVec.toNat_ofNat]
  interval_cases k <;> (simp only [Nat.reducePow, Nat.reduceMod, Nat.reduceDiv]; first | rfl | (
    show [loByte (mkWord b2 b1), hiByte (mkWord b2 b1)] = _
    rw [Machine.hiByte_mkWord, Machine.loByte_mkWord]; rfl))

/-- The operand bytes of an instruction, and any bytes after them, give it back (R73). -/
theorem decodeOp_bytes (i : Instr) (rest : List Byte) :
    decodeOp i.opcode ((i.operand.bytes ++ rest).getD 0 0) ((i.operand.bytes ++ rest).getD 1 0) = i := by
  cases i
  all_goals first
    | (dsimp only [Instr.opcode]; rfl)
    | (rename_i w
       obtain ⟨h, l, rfl⟩ : ∃ h l, w = mkWord h l := ⟨_, _, (Machine.mkWord_hi_lo w).symm⟩
       dsimp only [Instr.opcode, Instr.operand, Operand.bytes, List.getD_cons_zero, List.getD_cons_succ,
         List.cons_append]
       rw [Machine.hiByte_mkWord, Machine.loByte_mkWord]
       rfl)

/-- An instruction has the number of bytes its entry says (R72). -/
theorem bytes_length (i : Instr) : i.operand.bytes.length = (optable i.opcode).length - 1 := by
  have h := (Laws.Table.all i).2.2.1
  simp only [encode, List.length_cons] at h
  omega

/-- Every entry's length is 1, 2 or 3 (R42). -/
theorem optable_length (op : Byte) : 1 ≤ (optable op).length ∧ (optable op).length ≤ 3 := by
  revert op
  decide

end Sys2Proof
end

