-- ==== Sys2Proof/Laws/Exec.lean ====
section
/-! SUPPORT. What `exec` is, said once for all 256 arms: the handler of the instruction's mnemonic run with its opcode and
operand, or IllegalOpcode where the slot has no handler (spec/40_dispatch.md R80, R99). -/

namespace Sys2Proof.Machine

/-- The handler a mnemonic selects (R99). -/
def handlerOf : Mnemonic → Ctx → State → State
  | .BRK => handleBrk
  | .ORA => handleOra
  | .NOP => handleNop
  | .ASL => handleAsl
  | .PHP => handlePhp
  | .BPL => handleBpl
  | .CLC => handleClc
  | .JSR => handleJsr
  | .AND => handleAnd
  | .BIT => handleBit
  | .ROL => handleRol
  | .PLP => handlePlp
  | .BMI => handleBmi
  | .SEC => handleSec
  | .RTI => handleRti
  | .EOR => handleEor
  | .LSR => handleLsr
  | .PHA => handlePha
  | .JMP => handleJmp
  | .BVC => handleBvc
  | .CLI => handleCli
  | .RTS => handleRts
  | .ADC => handleAdc
  | .ROR => handleRor
  | .PLA => handlePla
  | .BVS => handleBvs
  | .SEI => handleSei
  | .STA => handleSta
  | .STY => handleSty
  | .STX => handleStx
  | .DEY => handleDey
  | .TXA => handleTxa
  | .BCC => handleBcc
  | .TYA => handleTya
  | .TXS => handleTxs
  | .LDY => handleLdy
  | .LDA => handleLda
  | .LDX => handleLdx
  | .TAY => handleTay
  | .TAX => handleTax
  | .BCS => handleBcs
  | .CLV => handleClv
  | .TSX => handleTsx
  | .CPY => handleCpy
  | .CMP => handleCmp
  | .DEC => handleDec
  | .INY => handleIny
  | .DEX => handleDex
  | .BNE => handleBne
  | .CLD => handleCld
  | .CPX => handleCpx
  | .SBC => handleSbc
  | .INC => handleInc
  | .INX => handleInx
  | .BEQ => handleBeq
  | .SED => handleSed
  | .KIL | .SLO | .ANC | .RLA | .SRE | .ALR | .RRA | .ARR | .SAX | .XAA
  | .AHX | .TAS | .SHY | .SHX | .LAX | .LAS | .DCP | .AXS | .ISC => fun _ s => s

theorem exec_eq (i : Instr) (s : State) :
    exec i s = bif handlerPresent i.opcode s.params then runHandler i.opcode i.operand (handlerOf i.mnemonic) s
      else runIllegal i.opcode i.operand s := by
  cases i <;> (dsimp only [Instr.opcode]; rfl)

/-- Every instruction completes (R300, R220): `exec` never stops. -/
theorem exec_of_handler {i : Instr} {s : State} (h : handlerPresent i.opcode s.params = true) :
    exec i s = .next (handlerOf i.mnemonic (contextOf i.opcode i.operand s) (readyState i.opcode i.operand s)) := by
  rw [exec_eq, h]
  rfl

theorem exec_of_no_handler {i : Instr} {s : State} (h : handlerPresent i.opcode s.params = false) :
    exec i s = .next ((readyState i.opcode i.operand s).raiseIllegal i.opcode s.pc) := by
  rw [exec_eq, h]
  rfl

/-- What a next state of `exec` is. -/
theorem exec_cases {i : Instr} {s t : State} (h : exec i s = .next t) :
    (handlerPresent i.opcode s.params = true
      ∧ t = handlerOf i.mnemonic (contextOf i.opcode i.operand s) (readyState i.opcode i.operand s))
    ∨ (handlerPresent i.opcode s.params = false
      ∧ t = (readyState i.opcode i.operand s).raiseIllegal i.opcode s.pc) := by
  cases hp : handlerPresent i.opcode s.params
  · rw [exec_of_no_handler hp] at h
    exact .inr ⟨rfl, (Host.Outcome.next.inj h).symm⟩
  · rw [exec_of_handler hp] at h
    exact .inl ⟨rfl, (Host.Outcome.next.inj h).symm⟩

/-- The mnemonics no slot of which has a handler (R301 to R319). -/
abbrev undocumented : List Mnemonic :=
  [.KIL, .SLO, .RLA, .SRE, .RRA, .SAX, .LAX, .DCP, .ISC, .ANC, .ALR, .ARR, .XAA, .AXS, .AHX, .TAS, .SHY, .SHX, .LAS]

/-- Which slots have a handler (R77, R320, R321). -/
theorem handlerPresent_cases (i : Instr) (params : Params) :
    handlerPresent i.opcode params = true ∨ i.mnemonic ∈ undocumented
      ∨ (i.mnemonic = .NOP ∨ i.mnemonic = .SBC) ∧ params.undocAliases = false ∧ i ≠ .nop := by
  cases i
  all_goals dsimp only [Instr.opcode]
  all_goals first
    | exact .inl rfl
    | exact .inr (.inl (by dsimp only [Instr.mnemonic]; decide))
    | (cases h : params.undocAliases
       · exact .inr (.inr ⟨by dsimp only [Instr.mnemonic]; decide, rfl, nofun⟩)
       · exact .inl h)

/-- A documented mnemonic other than NOP and SBC runs its handler in every form. -/
theorem exec_of_mnemonic {i : Instr} {m : Mnemonic} (s : State) (hm : i.mnemonic = m)
    (h : m ∉ undocumented ∧ m ≠ .NOP ∧ m ≠ .SBC) :
    exec i s = .next (handlerOf m (contextOf i.opcode i.operand s) (readyState i.opcode i.operand s)) := by
  subst hm
  apply exec_of_handler
  rcases handlerPresent_cases i s.params with h' | h' | ⟨h' | h', _⟩
  · exact h'
  · exact absurd h' h.1
  · exact absurd h' h.2.1
  · exact absurd h' h.2.2

end Sys2Proof.Machine
end

