-- ==== Sys2Proof/Laws/Frame.lean ====
section
/-! SUPPORT. What the shared operations leave unchanged: one lemma per operation that names the fields it may change, and
one per field it keeps. -/

namespace Sys2Proof.Machine

/-- A write back changes A, or what a bus write changes (R98). -/
theorem writeback_eq (ctx : Ctx) (w : Byte) (s : State) :
    writeback ctx w s = { s with a := (writeback ctx w s).a, ram := (writeback ctx w s).ram
                                 mapper := (writeback ctx w s).mapper, periph := (writeback ctx w s).periph } := by
  unfold writeback
  split
  · rfl
  · rw [State.writeByte_eq]

/-- A shift changes what its write back changes, and C, Z and N (R150 to R153). -/
theorem shiftOp_eq (f : Byte → Bool → Byte × Bool) (ctx : Ctx) (s : State) :
    shiftOp f ctx s = { s with
      a := (shiftOp f ctx s).a, c := (shiftOp f ctx s).c, z := (shiftOp f ctx s).z, n := (shiftOp f ctx s).n
      ram := (shiftOp f ctx s).ram, mapper := (shiftOp f ctx s).mapper, periph := (shiftOp f ctx s).periph } := by
  unfold shiftOp
  simp only
  rw [writeback_eq, readOperand_state_eq]
  rfl

/-- A branch changes PC and `cycles` (R166). -/
theorem branch_eq (taken : Bool) (ctx : Ctx) (s : State) :
    branch taken ctx s = { s with
      pc := if taken then ctx.ea else s.pc
      cycles := s.cycles + if taken then 1 + (if pagesDiffer ctx.pc ctx.ea then 1 else 0) else 0 } := by
  cases taken <;> rfl

@[simp] theorem State.touch_a (a : Addr) (s : State) : (s.touch a).a = s.a := by rw [State.touch_eq]
@[simp] theorem State.touch_x (a : Addr) (s : State) : (s.touch a).x = s.x := by rw [State.touch_eq]
@[simp] theorem State.touch_y (a : Addr) (s : State) : (s.touch a).y = s.y := by rw [State.touch_eq]
@[simp] theorem State.touch_sp (a : Addr) (s : State) : (s.touch a).sp = s.sp := by rw [State.touch_eq]
@[simp] theorem State.touch_pc (a : Addr) (s : State) : (s.touch a).pc = s.pc := by rw [State.touch_eq]
@[simp] theorem State.touch_c (a : Addr) (s : State) : (s.touch a).c = s.c := by rw [State.touch_eq]
@[simp] theorem State.touch_z (a : Addr) (s : State) : (s.touch a).z = s.z := by rw [State.touch_eq]
@[simp] theorem State.touch_i (a : Addr) (s : State) : (s.touch a).i = s.i := by rw [State.touch_eq]
@[simp] theorem State.touch_d (a : Addr) (s : State) : (s.touch a).d = s.d := by rw [State.touch_eq]
@[simp] theorem State.touch_b (a : Addr) (s : State) : (s.touch a).b = s.b := by rw [State.touch_eq]
@[simp] theorem State.touch_v (a : Addr) (s : State) : (s.touch a).v = s.v := by rw [State.touch_eq]
@[simp] theorem State.touch_n (a : Addr) (s : State) : (s.touch a).n = s.n := by rw [State.touch_eq]
@[simp] theorem State.touch_mailbox (a : Addr) (s : State) : (s.touch a).mailbox = s.mailbox := by rw [State.touch_eq]
@[simp] theorem State.touch_stall (a : Addr) (s : State) : (s.touch a).stall = s.stall := by rw [State.touch_eq]
@[simp] theorem State.touch_cycles (a : Addr) (s : State) : (s.touch a).cycles = s.cycles := by rw [State.touch_eq]
@[simp] theorem State.touch_faults (a : Addr) (s : State) : (s.touch a).faults = s.faults := by rw [State.touch_eq]
@[simp] theorem State.touch_ram (a : Addr) (s : State) : (s.touch a).ram = s.ram := by rw [State.touch_eq]
@[simp] theorem State.touch_ramEpoch (a : Addr) (s : State) : (s.touch a).ramEpoch = s.ramEpoch := by rw [State.touch_eq]
@[simp] theorem State.touch_mapper (a : Addr) (s : State) : (s.touch a).mapper = s.mapper := by rw [State.touch_eq]
@[simp] theorem State.touch_params (a : Addr) (s : State) : (s.touch a).params = s.params := by rw [State.touch_eq]

@[simp] theorem State.writeByte_a (a : Addr) (w : Byte) (s : State) : (s.writeByte a w).a = s.a := by rw [State.writeByte_eq]
@[simp] theorem State.writeByte_x (a : Addr) (w : Byte) (s : State) : (s.writeByte a w).x = s.x := by rw [State.writeByte_eq]
@[simp] theorem State.writeByte_y (a : Addr) (w : Byte) (s : State) : (s.writeByte a w).y = s.y := by rw [State.writeByte_eq]
@[simp] theorem State.writeByte_sp (a : Addr) (w : Byte) (s : State) : (s.writeByte a w).sp = s.sp := by rw [State.writeByte_eq]
@[simp] theorem State.writeByte_pc (a : Addr) (w : Byte) (s : State) : (s.writeByte a w).pc = s.pc := by rw [State.writeByte_eq]
@[simp] theorem State.writeByte_c (a : Addr) (w : Byte) (s : State) : (s.writeByte a w).c = s.c := by rw [State.writeByte_eq]
@[simp] theorem State.writeByte_z (a : Addr) (w : Byte) (s : State) : (s.writeByte a w).z = s.z := by rw [State.writeByte_eq]
@[simp] theorem State.writeByte_i (a : Addr) (w : Byte) (s : State) : (s.writeByte a w).i = s.i := by rw [State.writeByte_eq]
@[simp] theorem State.writeByte_d (a : Addr) (w : Byte) (s : State) : (s.writeByte a w).d = s.d := by rw [State.writeByte_eq]
@[simp] theorem State.writeByte_b (a : Addr) (w : Byte) (s : State) : (s.writeByte a w).b = s.b := by rw [State.writeByte_eq]
@[simp] theorem State.writeByte_v (a : Addr) (w : Byte) (s : State) : (s.writeByte a w).v = s.v := by rw [State.writeByte_eq]
@[simp] theorem State.writeByte_n (a : Addr) (w : Byte) (s : State) : (s.writeByte a w).n = s.n := by rw [State.writeByte_eq]
@[simp] theorem State.writeByte_mailbox (a : Addr) (w : Byte) (s : State) : (s.writeByte a w).mailbox = s.mailbox := by rw [State.writeByte_eq]
@[simp] theorem State.writeByte_stall (a : Addr) (w : Byte) (s : State) : (s.writeByte a w).stall = s.stall := by rw [State.writeByte_eq]
@[simp] theorem State.writeByte_cycles (a : Addr) (w : Byte) (s : State) : (s.writeByte a w).cycles = s.cycles := by rw [State.writeByte_eq]
@[simp] theorem State.writeByte_faults (a : Addr) (w : Byte) (s : State) : (s.writeByte a w).faults = s.faults := by rw [State.writeByte_eq]
@[simp] theorem State.writeByte_ramEpoch (a : Addr) (w : Byte) (s : State) : (s.writeByte a w).ramEpoch = s.ramEpoch := by rw [State.writeByte_eq]
@[simp] theorem State.writeByte_params (a : Addr) (w : Byte) (s : State) : (s.writeByte a w).params = s.params := by rw [State.writeByte_eq]

@[simp] theorem State.push_a (w : Byte) (s : State) : (s.push w).a = s.a := by rw [State.push_eq]
@[simp] theorem State.push_x (w : Byte) (s : State) : (s.push w).x = s.x := by rw [State.push_eq]
@[simp] theorem State.push_y (w : Byte) (s : State) : (s.push w).y = s.y := by rw [State.push_eq]
@[simp] theorem State.push_pc (w : Byte) (s : State) : (s.push w).pc = s.pc := by rw [State.push_eq]
@[simp] theorem State.push_c (w : Byte) (s : State) : (s.push w).c = s.c := by rw [State.push_eq]
@[simp] theorem State.push_z (w : Byte) (s : State) : (s.push w).z = s.z := by rw [State.push_eq]
@[simp] theorem State.push_i (w : Byte) (s : State) : (s.push w).i = s.i := by rw [State.push_eq]
@[simp] theorem State.push_d (w : Byte) (s : State) : (s.push w).d = s.d := by rw [State.push_eq]
@[simp] theorem State.push_b (w : Byte) (s : State) : (s.push w).b = s.b := by rw [State.push_eq]
@[simp] theorem State.push_v (w : Byte) (s : State) : (s.push w).v = s.v := by rw [State.push_eq]
@[simp] theorem State.push_n (w : Byte) (s : State) : (s.push w).n = s.n := by rw [State.push_eq]
@[simp] theorem State.push_mailbox (w : Byte) (s : State) : (s.push w).mailbox = s.mailbox := by rw [State.push_eq]
@[simp] theorem State.push_stall (w : Byte) (s : State) : (s.push w).stall = s.stall := by rw [State.push_eq]
@[simp] theorem State.push_cycles (w : Byte) (s : State) : (s.push w).cycles = s.cycles := by rw [State.push_eq]
@[simp] theorem State.push_faults (w : Byte) (s : State) : (s.push w).faults = s.faults := by rw [State.push_eq]
@[simp] theorem State.push_ramEpoch (w : Byte) (s : State) : (s.push w).ramEpoch = s.ramEpoch := by rw [State.push_eq]
@[simp] theorem State.push_mapper (w : Byte) (s : State) : (s.push w).mapper = s.mapper := by rw [State.push_eq]
@[simp] theorem State.push_periph (w : Byte) (s : State) : (s.push w).periph = s.periph := by rw [State.push_eq]
@[simp] theorem State.push_params (w : Byte) (s : State) : (s.push w).params = s.params := by rw [State.push_eq]

@[simp] theorem State.push16_a (w : Addr) (s : State) : (s.push16 w).a = s.a := by rw [State.push16_eq]
@[simp] theorem State.push16_x (w : Addr) (s : State) : (s.push16 w).x = s.x := by rw [State.push16_eq]
@[simp] theorem State.push16_y (w : Addr) (s : State) : (s.push16 w).y = s.y := by rw [State.push16_eq]
@[simp] theorem State.push16_pc (w : Addr) (s : State) : (s.push16 w).pc = s.pc := by rw [State.push16_eq]
@[simp] theorem State.push16_c (w : Addr) (s : State) : (s.push16 w).c = s.c := by rw [State.push16_eq]
@[simp] theorem State.push16_z (w : Addr) (s : State) : (s.push16 w).z = s.z := by rw [State.push16_eq]
@[simp] theorem State.push16_i (w : Addr) (s : State) : (s.push16 w).i = s.i := by rw [State.push16_eq]
@[simp] theorem State.push16_d (w : Addr) (s : State) : (s.push16 w).d = s.d := by rw [State.push16_eq]
@[simp] theorem State.push16_b (w : Addr) (s : State) : (s.push16 w).b = s.b := by rw [State.push16_eq]
@[simp] theorem State.push16_v (w : Addr) (s : State) : (s.push16 w).v = s.v := by rw [State.push16_eq]
@[simp] theorem State.push16_n (w : Addr) (s : State) : (s.push16 w).n = s.n := by rw [State.push16_eq]
@[simp] theorem State.push16_mailbox (w : Addr) (s : State) : (s.push16 w).mailbox = s.mailbox := by rw [State.push16_eq]
@[simp] theorem State.push16_stall (w : Addr) (s : State) : (s.push16 w).stall = s.stall := by rw [State.push16_eq]
@[simp] theorem State.push16_cycles (w : Addr) (s : State) : (s.push16 w).cycles = s.cycles := by rw [State.push16_eq]
@[simp] theorem State.push16_faults (w : Addr) (s : State) : (s.push16 w).faults = s.faults := by rw [State.push16_eq]
@[simp] theorem State.push16_ramEpoch (w : Addr) (s : State) : (s.push16 w).ramEpoch = s.ramEpoch := by rw [State.push16_eq]
@[simp] theorem State.push16_mapper (w : Addr) (s : State) : (s.push16 w).mapper = s.mapper := by rw [State.push16_eq]
@[simp] theorem State.push16_periph (w : Addr) (s : State) : (s.push16 w).periph = s.periph := by rw [State.push16_eq]
@[simp] theorem State.push16_params (w : Addr) (s : State) : (s.push16 w).params = s.params := by rw [State.push16_eq]

@[simp] theorem State.pull_a (s : State) : (s.pull.2).a = s.a := by rw [State.pull_eq]
@[simp] theorem State.pull_x (s : State) : (s.pull.2).x = s.x := by rw [State.pull_eq]
@[simp] theorem State.pull_y (s : State) : (s.pull.2).y = s.y := by rw [State.pull_eq]
@[simp] theorem State.pull_pc (s : State) : (s.pull.2).pc = s.pc := by rw [State.pull_eq]
@[simp] theorem State.pull_c (s : State) : (s.pull.2).c = s.c := by rw [State.pull_eq]
@[simp] theorem State.pull_z (s : State) : (s.pull.2).z = s.z := by rw [State.pull_eq]
@[simp] theorem State.pull_i (s : State) : (s.pull.2).i = s.i := by rw [State.pull_eq]
@[simp] theorem State.pull_d (s : State) : (s.pull.2).d = s.d := by rw [State.pull_eq]
@[simp] theorem State.pull_b (s : State) : (s.pull.2).b = s.b := by rw [State.pull_eq]
@[simp] theorem State.pull_v (s : State) : (s.pull.2).v = s.v := by rw [State.pull_eq]
@[simp] theorem State.pull_n (s : State) : (s.pull.2).n = s.n := by rw [State.pull_eq]
@[simp] theorem State.pull_mailbox (s : State) : (s.pull.2).mailbox = s.mailbox := by rw [State.pull_eq]
@[simp] theorem State.pull_stall (s : State) : (s.pull.2).stall = s.stall := by rw [State.pull_eq]
@[simp] theorem State.pull_cycles (s : State) : (s.pull.2).cycles = s.cycles := by rw [State.pull_eq]
@[simp] theorem State.pull_faults (s : State) : (s.pull.2).faults = s.faults := by rw [State.pull_eq]
@[simp] theorem State.pull_ram (s : State) : (s.pull.2).ram = s.ram := by rw [State.pull_eq]
@[simp] theorem State.pull_ramEpoch (s : State) : (s.pull.2).ramEpoch = s.ramEpoch := by rw [State.pull_eq]
@[simp] theorem State.pull_mapper (s : State) : (s.pull.2).mapper = s.mapper := by rw [State.pull_eq]
@[simp] theorem State.pull_periph (s : State) : (s.pull.2).periph = s.periph := by rw [State.pull_eq]
@[simp] theorem State.pull_params (s : State) : (s.pull.2).params = s.params := by rw [State.pull_eq]

@[simp] theorem State.pull16_a (s : State) : (s.pull16.2).a = s.a := by rw [State.pull16_eq]
@[simp] theorem State.pull16_x (s : State) : (s.pull16.2).x = s.x := by rw [State.pull16_eq]
@[simp] theorem State.pull16_y (s : State) : (s.pull16.2).y = s.y := by rw [State.pull16_eq]
@[simp] theorem State.pull16_pc (s : State) : (s.pull16.2).pc = s.pc := by rw [State.pull16_eq]
@[simp] theorem State.pull16_c (s : State) : (s.pull16.2).c = s.c := by rw [State.pull16_eq]
@[simp] theorem State.pull16_z (s : State) : (s.pull16.2).z = s.z := by rw [State.pull16_eq]
@[simp] theorem State.pull16_i (s : State) : (s.pull16.2).i = s.i := by rw [State.pull16_eq]
@[simp] theorem State.pull16_d (s : State) : (s.pull16.2).d = s.d := by rw [State.pull16_eq]
@[simp] theorem State.pull16_b (s : State) : (s.pull16.2).b = s.b := by rw [State.pull16_eq]
@[simp] theorem State.pull16_v (s : State) : (s.pull16.2).v = s.v := by rw [State.pull16_eq]
@[simp] theorem State.pull16_n (s : State) : (s.pull16.2).n = s.n := by rw [State.pull16_eq]
@[simp] theorem State.pull16_mailbox (s : State) : (s.pull16.2).mailbox = s.mailbox := by rw [State.pull16_eq]
@[simp] theorem State.pull16_stall (s : State) : (s.pull16.2).stall = s.stall := by rw [State.pull16_eq]
@[simp] theorem State.pull16_cycles (s : State) : (s.pull16.2).cycles = s.cycles := by rw [State.pull16_eq]
@[simp] theorem State.pull16_faults (s : State) : (s.pull16.2).faults = s.faults := by rw [State.pull16_eq]
@[simp] theorem State.pull16_ram (s : State) : (s.pull16.2).ram = s.ram := by rw [State.pull16_eq]
@[simp] theorem State.pull16_ramEpoch (s : State) : (s.pull16.2).ramEpoch = s.ramEpoch := by rw [State.pull16_eq]
@[simp] theorem State.pull16_mapper (s : State) : (s.pull16.2).mapper = s.mapper := by rw [State.pull16_eq]
@[simp] theorem State.pull16_periph (s : State) : (s.pull16.2).periph = s.periph := by rw [State.pull16_eq]
@[simp] theorem State.pull16_params (s : State) : (s.pull16.2).params = s.params := by rw [State.pull16_eq]

@[simp] theorem State.returnFromTrap_a (s : State) : (s.returnFromTrap).a = s.a := by rw [State.returnFromTrap_eq]
@[simp] theorem State.returnFromTrap_x (s : State) : (s.returnFromTrap).x = s.x := by rw [State.returnFromTrap_eq]
@[simp] theorem State.returnFromTrap_y (s : State) : (s.returnFromTrap).y = s.y := by rw [State.returnFromTrap_eq]
@[simp] theorem State.returnFromTrap_b (s : State) : (s.returnFromTrap).b = s.b := by rw [State.returnFromTrap_eq]
@[simp] theorem State.returnFromTrap_mailbox (s : State) : (s.returnFromTrap).mailbox = s.mailbox := by rw [State.returnFromTrap_eq]
@[simp] theorem State.returnFromTrap_stall (s : State) : (s.returnFromTrap).stall = s.stall := by rw [State.returnFromTrap_eq]
@[simp] theorem State.returnFromTrap_cycles (s : State) : (s.returnFromTrap).cycles = s.cycles := by rw [State.returnFromTrap_eq]
@[simp] theorem State.returnFromTrap_faults (s : State) : (s.returnFromTrap).faults = s.faults := by rw [State.returnFromTrap_eq]
@[simp] theorem State.returnFromTrap_ram (s : State) : (s.returnFromTrap).ram = s.ram := by rw [State.returnFromTrap_eq]
@[simp] theorem State.returnFromTrap_ramEpoch (s : State) : (s.returnFromTrap).ramEpoch = s.ramEpoch := by rw [State.returnFromTrap_eq]
@[simp] theorem State.returnFromTrap_mapper (s : State) : (s.returnFromTrap).mapper = s.mapper := by rw [State.returnFromTrap_eq]
@[simp] theorem State.returnFromTrap_periph (s : State) : (s.returnFromTrap).periph = s.periph := by rw [State.returnFromTrap_eq]
@[simp] theorem State.returnFromTrap_params (s : State) : (s.returnFromTrap).params = s.params := by rw [State.returnFromTrap_eq]

@[simp] theorem readOperand_a (ctx : Ctx) (s : State) : ((readOperand ctx s).2).a = s.a := by rw [readOperand_state_eq]
@[simp] theorem readOperand_x (ctx : Ctx) (s : State) : ((readOperand ctx s).2).x = s.x := by rw [readOperand_state_eq]
@[simp] theorem readOperand_y (ctx : Ctx) (s : State) : ((readOperand ctx s).2).y = s.y := by rw [readOperand_state_eq]
@[simp] theorem readOperand_sp (ctx : Ctx) (s : State) : ((readOperand ctx s).2).sp = s.sp := by rw [readOperand_state_eq]
@[simp] theorem readOperand_pc (ctx : Ctx) (s : State) : ((readOperand ctx s).2).pc = s.pc := by rw [readOperand_state_eq]
@[simp] theorem readOperand_c (ctx : Ctx) (s : State) : ((readOperand ctx s).2).c = s.c := by rw [readOperand_state_eq]
@[simp] theorem readOperand_z (ctx : Ctx) (s : State) : ((readOperand ctx s).2).z = s.z := by rw [readOperand_state_eq]
@[simp] theorem readOperand_i (ctx : Ctx) (s : State) : ((readOperand ctx s).2).i = s.i := by rw [readOperand_state_eq]
@[simp] theorem readOperand_d (ctx : Ctx) (s : State) : ((readOperand ctx s).2).d = s.d := by rw [readOperand_state_eq]
@[simp] theorem readOperand_b (ctx : Ctx) (s : State) : ((readOperand ctx s).2).b = s.b := by rw [readOperand_state_eq]
@[simp] theorem readOperand_v (ctx : Ctx) (s : State) : ((readOperand ctx s).2).v = s.v := by rw [readOperand_state_eq]
@[simp] theorem readOperand_n (ctx : Ctx) (s : State) : ((readOperand ctx s).2).n = s.n := by rw [readOperand_state_eq]
@[simp] theorem readOperand_mailbox (ctx : Ctx) (s : State) : ((readOperand ctx s).2).mailbox = s.mailbox := by rw [readOperand_state_eq]
@[simp] theorem readOperand_stall (ctx : Ctx) (s : State) : ((readOperand ctx s).2).stall = s.stall := by rw [readOperand_state_eq]
@[simp] theorem readOperand_cycles (ctx : Ctx) (s : State) : ((readOperand ctx s).2).cycles = s.cycles := by rw [readOperand_state_eq]
@[simp] theorem readOperand_faults (ctx : Ctx) (s : State) : ((readOperand ctx s).2).faults = s.faults := by rw [readOperand_state_eq]
@[simp] theorem readOperand_ram (ctx : Ctx) (s : State) : ((readOperand ctx s).2).ram = s.ram := by rw [readOperand_state_eq]
@[simp] theorem readOperand_ramEpoch (ctx : Ctx) (s : State) : ((readOperand ctx s).2).ramEpoch = s.ramEpoch := by rw [readOperand_state_eq]
@[simp] theorem readOperand_mapper (ctx : Ctx) (s : State) : ((readOperand ctx s).2).mapper = s.mapper := by rw [readOperand_state_eq]
@[simp] theorem readOperand_params (ctx : Ctx) (s : State) : ((readOperand ctx s).2).params = s.params := by rw [readOperand_state_eq]

@[simp] theorem writeback_x (ctx : Ctx) (w : Byte) (s : State) : (writeback ctx w s).x = s.x := by rw [writeback_eq]
@[simp] theorem writeback_y (ctx : Ctx) (w : Byte) (s : State) : (writeback ctx w s).y = s.y := by rw [writeback_eq]
@[simp] theorem writeback_sp (ctx : Ctx) (w : Byte) (s : State) : (writeback ctx w s).sp = s.sp := by rw [writeback_eq]
@[simp] theorem writeback_pc (ctx : Ctx) (w : Byte) (s : State) : (writeback ctx w s).pc = s.pc := by rw [writeback_eq]
@[simp] theorem writeback_c (ctx : Ctx) (w : Byte) (s : State) : (writeback ctx w s).c = s.c := by rw [writeback_eq]
@[simp] theorem writeback_z (ctx : Ctx) (w : Byte) (s : State) : (writeback ctx w s).z = s.z := by rw [writeback_eq]
@[simp] theorem writeback_i (ctx : Ctx) (w : Byte) (s : State) : (writeback ctx w s).i = s.i := by rw [writeback_eq]
@[simp] theorem writeback_d (ctx : Ctx) (w : Byte) (s : State) : (writeback ctx w s).d = s.d := by rw [writeback_eq]
@[simp] theorem writeback_b (ctx : Ctx) (w : Byte) (s : State) : (writeback ctx w s).b = s.b := by rw [writeback_eq]
@[simp] theorem writeback_v (ctx : Ctx) (w : Byte) (s : State) : (writeback ctx w s).v = s.v := by rw [writeback_eq]
@[simp] theorem writeback_n (ctx : Ctx) (w : Byte) (s : State) : (writeback ctx w s).n = s.n := by rw [writeback_eq]
@[simp] theorem writeback_mailbox (ctx : Ctx) (w : Byte) (s : State) : (writeback ctx w s).mailbox = s.mailbox := by rw [writeback_eq]
@[simp] theorem writeback_stall (ctx : Ctx) (w : Byte) (s : State) : (writeback ctx w s).stall = s.stall := by rw [writeback_eq]
@[simp] theorem writeback_cycles (ctx : Ctx) (w : Byte) (s : State) : (writeback ctx w s).cycles = s.cycles := by rw [writeback_eq]
@[simp] theorem writeback_faults (ctx : Ctx) (w : Byte) (s : State) : (writeback ctx w s).faults = s.faults := by rw [writeback_eq]
@[simp] theorem writeback_ramEpoch (ctx : Ctx) (w : Byte) (s : State) : (writeback ctx w s).ramEpoch = s.ramEpoch := by rw [writeback_eq]
@[simp] theorem writeback_params (ctx : Ctx) (w : Byte) (s : State) : (writeback ctx w s).params = s.params := by rw [writeback_eq]

@[simp] theorem shiftOp_x (f : Byte → Bool → Byte × Bool) (ctx : Ctx) (s : State) : (shiftOp f ctx s).x = s.x := by rw [shiftOp_eq]
@[simp] theorem shiftOp_y (f : Byte → Bool → Byte × Bool) (ctx : Ctx) (s : State) : (shiftOp f ctx s).y = s.y := by rw [shiftOp_eq]
@[simp] theorem shiftOp_sp (f : Byte → Bool → Byte × Bool) (ctx : Ctx) (s : State) : (shiftOp f ctx s).sp = s.sp := by rw [shiftOp_eq]
@[simp] theorem shiftOp_pc (f : Byte → Bool → Byte × Bool) (ctx : Ctx) (s : State) : (shiftOp f ctx s).pc = s.pc := by rw [shiftOp_eq]
@[simp] theorem shiftOp_i (f : Byte → Bool → Byte × Bool) (ctx : Ctx) (s : State) : (shiftOp f ctx s).i = s.i := by rw [shiftOp_eq]
@[simp] theorem shiftOp_d (f : Byte → Bool → Byte × Bool) (ctx : Ctx) (s : State) : (shiftOp f ctx s).d = s.d := by rw [shiftOp_eq]
@[simp] theorem shiftOp_b (f : Byte → Bool → Byte × Bool) (ctx : Ctx) (s : State) : (shiftOp f ctx s).b = s.b := by rw [shiftOp_eq]
@[simp] theorem shiftOp_v (f : Byte → Bool → Byte × Bool) (ctx : Ctx) (s : State) : (shiftOp f ctx s).v = s.v := by rw [shiftOp_eq]
@[simp] theorem shiftOp_mailbox (f : Byte → Bool → Byte × Bool) (ctx : Ctx) (s : State) : (shiftOp f ctx s).mailbox = s.mailbox := by rw [shiftOp_eq]
@[simp] theorem shiftOp_stall (f : Byte → Bool → Byte × Bool) (ctx : Ctx) (s : State) : (shiftOp f ctx s).stall = s.stall := by rw [shiftOp_eq]
@[simp] theorem shiftOp_cycles (f : Byte → Bool → Byte × Bool) (ctx : Ctx) (s : State) : (shiftOp f ctx s).cycles = s.cycles := by rw [shiftOp_eq]
@[simp] theorem shiftOp_faults (f : Byte → Bool → Byte × Bool) (ctx : Ctx) (s : State) : (shiftOp f ctx s).faults = s.faults := by rw [shiftOp_eq]
@[simp] theorem shiftOp_ramEpoch (f : Byte → Bool → Byte × Bool) (ctx : Ctx) (s : State) : (shiftOp f ctx s).ramEpoch = s.ramEpoch := by rw [shiftOp_eq]
@[simp] theorem shiftOp_params (f : Byte → Bool → Byte × Bool) (ctx : Ctx) (s : State) : (shiftOp f ctx s).params = s.params := by rw [shiftOp_eq]

@[simp] theorem branch_a (taken : Bool) (ctx : Ctx) (s : State) : (branch taken ctx s).a = s.a := by rw [branch_eq]
@[simp] theorem branch_x (taken : Bool) (ctx : Ctx) (s : State) : (branch taken ctx s).x = s.x := by rw [branch_eq]
@[simp] theorem branch_y (taken : Bool) (ctx : Ctx) (s : State) : (branch taken ctx s).y = s.y := by rw [branch_eq]
@[simp] theorem branch_sp (taken : Bool) (ctx : Ctx) (s : State) : (branch taken ctx s).sp = s.sp := by rw [branch_eq]
@[simp] theorem branch_c (taken : Bool) (ctx : Ctx) (s : State) : (branch taken ctx s).c = s.c := by rw [branch_eq]
@[simp] theorem branch_z (taken : Bool) (ctx : Ctx) (s : State) : (branch taken ctx s).z = s.z := by rw [branch_eq]
@[simp] theorem branch_i (taken : Bool) (ctx : Ctx) (s : State) : (branch taken ctx s).i = s.i := by rw [branch_eq]
@[simp] theorem branch_d (taken : Bool) (ctx : Ctx) (s : State) : (branch taken ctx s).d = s.d := by rw [branch_eq]
@[simp] theorem branch_b (taken : Bool) (ctx : Ctx) (s : State) : (branch taken ctx s).b = s.b := by rw [branch_eq]
@[simp] theorem branch_v (taken : Bool) (ctx : Ctx) (s : State) : (branch taken ctx s).v = s.v := by rw [branch_eq]
@[simp] theorem branch_n (taken : Bool) (ctx : Ctx) (s : State) : (branch taken ctx s).n = s.n := by rw [branch_eq]
@[simp] theorem branch_mailbox (taken : Bool) (ctx : Ctx) (s : State) : (branch taken ctx s).mailbox = s.mailbox := by rw [branch_eq]
@[simp] theorem branch_stall (taken : Bool) (ctx : Ctx) (s : State) : (branch taken ctx s).stall = s.stall := by rw [branch_eq]
@[simp] theorem branch_faults (taken : Bool) (ctx : Ctx) (s : State) : (branch taken ctx s).faults = s.faults := by rw [branch_eq]
@[simp] theorem branch_ram (taken : Bool) (ctx : Ctx) (s : State) : (branch taken ctx s).ram = s.ram := by rw [branch_eq]
@[simp] theorem branch_ramEpoch (taken : Bool) (ctx : Ctx) (s : State) : (branch taken ctx s).ramEpoch = s.ramEpoch := by rw [branch_eq]
@[simp] theorem branch_mapper (taken : Bool) (ctx : Ctx) (s : State) : (branch taken ctx s).mapper = s.mapper := by rw [branch_eq]
@[simp] theorem branch_periph (taken : Bool) (ctx : Ctx) (s : State) : (branch taken ctx s).periph = s.periph := by rw [branch_eq]
@[simp] theorem branch_params (taken : Bool) (ctx : Ctx) (s : State) : (branch taken ctx s).params = s.params := by rw [branch_eq]

@[simp] theorem readyState_a (op : Byte) (o : Operand) (s : State) : (readyState op o s).a = s.a := by rw [readyState_eq]
@[simp] theorem readyState_x (op : Byte) (o : Operand) (s : State) : (readyState op o s).x = s.x := by rw [readyState_eq]
@[simp] theorem readyState_y (op : Byte) (o : Operand) (s : State) : (readyState op o s).y = s.y := by rw [readyState_eq]
@[simp] theorem readyState_sp (op : Byte) (o : Operand) (s : State) : (readyState op o s).sp = s.sp := by rw [readyState_eq]
@[simp] theorem readyState_c (op : Byte) (o : Operand) (s : State) : (readyState op o s).c = s.c := by rw [readyState_eq]
@[simp] theorem readyState_z (op : Byte) (o : Operand) (s : State) : (readyState op o s).z = s.z := by rw [readyState_eq]
@[simp] theorem readyState_i (op : Byte) (o : Operand) (s : State) : (readyState op o s).i = s.i := by rw [readyState_eq]
@[simp] theorem readyState_d (op : Byte) (o : Operand) (s : State) : (readyState op o s).d = s.d := by rw [readyState_eq]
@[simp] theorem readyState_b (op : Byte) (o : Operand) (s : State) : (readyState op o s).b = s.b := by rw [readyState_eq]
@[simp] theorem readyState_v (op : Byte) (o : Operand) (s : State) : (readyState op o s).v = s.v := by rw [readyState_eq]
@[simp] theorem readyState_n (op : Byte) (o : Operand) (s : State) : (readyState op o s).n = s.n := by rw [readyState_eq]
@[simp] theorem readyState_mailbox (op : Byte) (o : Operand) (s : State) : (readyState op o s).mailbox = s.mailbox := by rw [readyState_eq]
@[simp] theorem readyState_stall (op : Byte) (o : Operand) (s : State) : (readyState op o s).stall = s.stall := by rw [readyState_eq]
@[simp] theorem readyState_faults (op : Byte) (o : Operand) (s : State) : (readyState op o s).faults = s.faults := by rw [readyState_eq]
@[simp] theorem readyState_ram (op : Byte) (o : Operand) (s : State) : (readyState op o s).ram = s.ram := by rw [readyState_eq]
@[simp] theorem readyState_ramEpoch (op : Byte) (o : Operand) (s : State) : (readyState op o s).ramEpoch = s.ramEpoch := by rw [readyState_eq]
@[simp] theorem readyState_mapper (op : Byte) (o : Operand) (s : State) : (readyState op o s).mapper = s.mapper := by rw [readyState_eq]
@[simp] theorem readyState_params (op : Byte) (o : Operand) (s : State) : (readyState op o s).params = s.params := by rw [readyState_eq]

end Sys2Proof.Machine
end

