-- ==== Sys2Proof/Laws/Step.lean ====
section
/-! SUPPORT. The step: its cases, what mailbox service and the fetch can change, and that what is fetched decodes. -/

namespace Sys2Proof.Machine

/-- A step that completes was a stall step, or ran one instruction. -/
theorem step_cases {s t : State} (h : step s = .next t) :
    s.stuckAt = none ∧ ((0 < s.stall ∧ t = s.stallStep)
      ∨ (s.stall = 0 ∧ exec s.serviceMailbox.fetchInstr s.serviceMailbox.fetched = .next t)) := by
  unfold step at h
  split at h
  · cases h
  · refine ⟨by assumption, ?_⟩
    split at h
    · exact .inl ⟨by assumption, (Host.Outcome.next.inj h).symm⟩
    · exact .inr ⟨by omega, h⟩

/-- A step that is neither stuck nor stalled is mailbox service, the fetch and one instruction (R80). -/
theorem step_eq {s : State} (h : s.stuckAt = none) (h0 : s.stall = 0) :
    step s = exec s.serviceMailbox.fetchInstr s.serviceMailbox.fetched := by
  simp only [step, h, h0, Nat.lt_irrefl, if_false]

/-- The fetch changes at most PERIPH's state. -/
theorem State.fetched_eq (s : State) : s.fetched = { s with periph := s.fetched.periph } := by
  have tr : ∀ t : State, t = { s with periph := t.periph } → ∀ a, t.touch a = { s with periph := (t.touch a).periph } := by
    intro t h a
    rw [State.touch_eq a t, h]
  have h1 := tr s rfl s.pc
  have h2 := tr _ h1 (s.pc + 1)
  have h3 := tr _ h2 (s.pc + 2)
  unfold State.fetched State.fetchBytes
  simp only [State.readByte]
  split <;> first | exact h1 | exact h2 | exact h3

/-- Where PC and the two bytes after it are memory, the fetch changes nothing. -/
theorem State.fetched_of_isMemory {s : State} (h0 : isMemory s.pc = true) (h1 : isMemory (s.pc + 1) = true)
    (h2 : isMemory (s.pc + 2) = true) : s.fetched = s := by
  unfold State.fetched State.fetchBytes
  simp only [State.readByte, State.touch_of_isMemory h0, State.touch_of_isMemory h1, State.touch_of_isMemory h2]
  split <;> rfl

/-- An entry's length is that of its mode (R70). -/
theorem optable_length_of_mode (op : Byte) :
    (optable op).length = match (optable op).mode with
      | .implied | .accumulator => 1
      | .immediate | .zeroPage | .zeroPageX | .zeroPageY | .relative | .indexedIndirect | .indirectIndexed => 2
      | .absolute | .absoluteX | .absoluteY | .indirect => 3 := by
  revert op
  decide

/-- The bytes fetched are exactly one instruction's, and `fetchInstr` is that instruction. -/
theorem State.decode_fetchBytes (s : State) : decode s.fetchBytes.1 = .ok (s.fetchInstr, []) := by
  have hl := optable_length_of_mode (s.peek s.pc)
  unfold State.fetchInstr State.fetchBytes
  simp only [State.readByte]
  cases hm : (optable (s.peek s.pc)).mode <;> rw [hm] at hl <;> simp [decode, hl, instrOfBytes]

/-- Where PC and the byte after it are memory, the self-loop of R245 is three bytes standing there, 0x4C and the address
itself, low byte first (log entry 13 is about PCs for which the reads can differ from these). -/
theorem State.atSelfLoop_of_isMemory {s : State} (h0 : isMemory s.pc = true) (h1 : isMemory (s.pc + 1) = true) :
    s.atSelfLoop = true ↔ s.peek s.pc = 0x4C ∧ s.peek (s.pc + 1) = loByte s.pc ∧ s.peek (s.pc + 2) = hiByte s.pc := by
  simp only [State.atSelfLoop, beq_iff_eq]
  by_cases h : s.peek s.pc = 0x4C
  · have hm : (optable (s.peek s.pc)).mode = .absolute := by rw [h]; decide
    have hf : s.fetchInstr = decodeOp (s.peek s.pc) (s.peek (s.pc + 1)) (s.peek (s.pc + 2)) := by
      simp only [State.fetchInstr, State.fetchBytes, State.readByte, hm, State.touch_of_isMemory h0,
        State.touch_of_isMemory h1]
      rfl
    have hj (lo hi : Byte) : decodeOp 0x4C lo hi = .jmpAbs (mkWord hi lo) := by
      have e : decodeOp 0x4C (loByte (mkWord hi lo)) (hiByte (mkWord hi lo)) = .jmpAbs (mkWord hi lo) :=
        decodeOp_bytes (.jmpAbs (mkWord hi lo)) []
      rwa [loByte_mkWord, hiByte_mkWord] at e
    rw [hf, h, hj]
    constructor
    · intro e
      have e := Instr.jmpAbs.inj e
      exact ⟨rfl, by rw [← congrArg loByte e, loByte_mkWord], by rw [← congrArg hiByte e, hiByte_mkWord]⟩
    · rintro ⟨-, hl, hh⟩
      rw [hl, hh, mkWord_hi_lo]
  · have ho : s.fetchInstr.opcode = s.peek s.pc := by
      simp only [State.fetchInstr, State.fetchBytes, State.readByte]
      cases (optable (s.peek s.pc)).mode <;> simp [instrOfBytes]
    refine iff_of_false (fun e => h ?_) (fun e => h e.1)
    rw [← ho, e]
    rfl

/-- Mailbox service with an empty mailbox does nothing. -/
theorem State.serviceMailbox_of_none {s : State} (h : s.mailbox = none) : s.serviceMailbox = s := by
  unfold State.serviceMailbox State.service State.setMailbox
  simp only [h]
  rw [← h]

/-- What mailbox service keeps, that it empties the mailbox, and what it can cost (R201 to R207). -/
theorem State.serviceMailbox_keeps (s : State) :
    s.serviceMailbox.mailbox = none ∧ s.serviceMailbox.stall = s.stall ∧ s.serviceMailbox.params = s.params
      ∧ s.serviceMailbox.faults = s.faults ∧ s.serviceMailbox.b = s.b ∧ s.serviceMailbox.ramEpoch = s.ramEpoch
      ∧ s.serviceMailbox.mapper = s.mapper ∧ s.serviceMailbox.periph = s.periph
      ∧ s.cycles ≤ s.serviceMailbox.cycles ∧ s.serviceMailbox.cycles ≤ s.cycles + s.params.interruptCycles := by
  unfold State.serviceMailbox State.service
  cases s.mailbox with
  | none => simp
  | some k =>
    cases k
    · simp only [State.serviceIrq]
      split
      · simp
      · rw [State.enterTrap_eq (by decide) (by decide)]
        simp [State.addCycles]
    · simp only [State.serviceNmi]
      rw [State.enterTrap_eq (by decide) (by decide)]
      simp [State.addCycles]
    · simp only [State.serviceReset]
      rw [State.loadPc_eq (by decide) (by decide)]
      simp

/-- Every entry takes at least 2 and at most 8 cycles (R261). -/
theorem optable_cycles (op : Byte) :
    2 ≤ (optable op).baseCycles ∧ (optable op).baseCycles + (optable op).pageBonus ≤ 8 := by
  revert op
  decide

end Sys2Proof.Machine
end

