-- ==== Sys2Proof/Tests/Slice0.lean ====
section
/-! SUPPORT. Tests, all by `decide`. Expected values come from spec/95_test_vectors.md, the examples in the rules, or
spec/opcode_table.json; none is the model's own answer. Then a witness for each statement with hypotheses. -/

namespace Sys2Proof.Machine.Tests

/-! ### WellFormed: ill-formed terms the checks refuse, beside ones they accept -/

theorem test_sta_has_no_immediate_form : modeLegal .STA (.immediate 0x12) = false := by decide
theorem test_jmp_has_no_zero_page_form : modeLegal .JMP (.zeroPage 0x12) = false := by decide
theorem test_ldx_is_never_indexed_by_x : modeLegal .LDX (.zeroPageX 0x12) = false := by decide
theorem test_inc_has_no_accumulator_form : modeLegal .INC .accumulator = false := by decide
theorem test_branches_are_relative_only : modeLegal .BNE (.absolute 0x1234) = false := by decide
theorem test_legal_pairs_are_accepted :
    (modeLegal .STA (.zeroPage 0x12) && modeLegal .JMP (.indirect 0x12) && modeLegal .LDX (.zeroPageY 0x12)) = true := by
  decide
theorem test_well_formed_instruction : (Instr.ldxZpy 0x12).WellFormed = true := by decide
/-- R78: the reach of a branch at 0x0200 is 0x0182 to 0x0281. -/
theorem test_branch_reach :
    [0x0181, 0x0182, 0x0281, 0x0282].map (branchInRange 0x0200) = [false, true, true, false] := by decide

/-! ### Decoding: each row's word, from the opcode column of R76 with operand byte 0x12 or word 0x3412 -/

theorem test_decode_row_0 : [
    (8, 0x00), (16, 0x1201), (8, 0x02), (16, 0x1203), (16, 0x1204), (16, 0x1205), (16, 0x1206), (16, 0x1207),
    (8, 0x08), (16, 0x1209), (8, 0x0A), (16, 0x120B), (24, 0x34120C), (24, 0x34120D), (24, 0x34120E), (24, 0x34120F)].map (fun w => decodeTableWord w.1 w.2) = ([
    .brk, .oraIzx 0x12, .kil02, .sloIzx 0x12, .nopZp04 0x12, .oraZp 0x12, .aslZp 0x12, .sloZp 0x12, .php,
    .oraImm 0x12, .aslAcc, .ancImm0B 0x12, .nopAbs 0x3412, .oraAbs 0x3412, .aslAbs 0x3412, .sloAbs 0x3412] : List Instr).map some := by decide

theorem test_decode_row_1 : [
    (16, 0x1210), (16, 0x1211), (8, 0x12), (16, 0x1213), (16, 0x1214), (16, 0x1215), (16, 0x1216), (16, 0x1217),
    (8, 0x18), (24, 0x341219), (8, 0x1A), (24, 0x34121B), (24, 0x34121C), (24, 0x34121D), (24, 0x34121E),
    (24, 0x34121F)].map (fun w => decodeTableWord w.1 w.2) = ([
    .bpl 0x12, .oraIzy 0x12, .kil12, .sloIzy 0x12, .nopZpx14 0x12, .oraZpx 0x12, .aslZpx 0x12, .sloZpx 0x12, .clc,
    .oraAby 0x3412, .nop1A, .sloAby 0x3412, .nopAbx1C 0x3412, .oraAbx 0x3412, .aslAbx 0x3412, .sloAbx 0x3412] : List Instr).map some := by decide

theorem test_decode_row_2 : [
    (24, 0x341220), (16, 0x1221), (8, 0x22), (16, 0x1223), (16, 0x1224), (16, 0x1225), (16, 0x1226), (16, 0x1227),
    (8, 0x28), (16, 0x1229), (8, 0x2A), (16, 0x122B), (24, 0x34122C), (24, 0x34122D), (24, 0x34122E), (24, 0x34122F)].map (fun w => decodeTableWord w.1 w.2) = ([
    .jsr 0x3412, .andIzx 0x12, .kil22, .rlaIzx 0x12, .bitZp 0x12, .andZp 0x12, .rolZp 0x12, .rlaZp 0x12, .plp,
    .andImm 0x12, .rolAcc, .ancImm2B 0x12, .bitAbs 0x3412, .andAbs 0x3412, .rolAbs 0x3412, .rlaAbs 0x3412] : List Instr).map some := by decide

theorem test_decode_row_3 : [
    (16, 0x1230), (16, 0x1231), (8, 0x32), (16, 0x1233), (16, 0x1234), (16, 0x1235), (16, 0x1236), (16, 0x1237),
    (8, 0x38), (24, 0x341239), (8, 0x3A), (24, 0x34123B), (24, 0x34123C), (24, 0x34123D), (24, 0x34123E),
    (24, 0x34123F)].map (fun w => decodeTableWord w.1 w.2) = ([
    .bmi 0x12, .andIzy 0x12, .kil32, .rlaIzy 0x12, .nopZpx34 0x12, .andZpx 0x12, .rolZpx 0x12, .rlaZpx 0x12, .sec,
    .andAby 0x3412, .nop3A, .rlaAby 0x3412, .nopAbx3C 0x3412, .andAbx 0x3412, .rolAbx 0x3412, .rlaAbx 0x3412] : List Instr).map some := by decide

theorem test_decode_row_4 : [
    (8, 0x40), (16, 0x1241), (8, 0x42), (16, 0x1243), (16, 0x1244), (16, 0x1245), (16, 0x1246), (16, 0x1247),
    (8, 0x48), (16, 0x1249), (8, 0x4A), (16, 0x124B), (24, 0x34124C), (24, 0x34124D), (24, 0x34124E), (24, 0x34124F)].map (fun w => decodeTableWord w.1 w.2) = ([
    .rti, .eorIzx 0x12, .kil42, .sreIzx 0x12, .nopZp44 0x12, .eorZp 0x12, .lsrZp 0x12, .sreZp 0x12, .pha,
    .eorImm 0x12, .lsrAcc, .alr 0x12, .jmpAbs 0x3412, .eorAbs 0x3412, .lsrAbs 0x3412, .sreAbs 0x3412] : List Instr).map some := by decide

theorem test_decode_row_5 : [
    (16, 0x1250), (16, 0x1251), (8, 0x52), (16, 0x1253), (16, 0x1254), (16, 0x1255), (16, 0x1256), (16, 0x1257),
    (8, 0x58), (24, 0x341259), (8, 0x5A), (24, 0x34125B), (24, 0x34125C), (24, 0x34125D), (24, 0x34125E),
    (24, 0x34125F)].map (fun w => decodeTableWord w.1 w.2) = ([
    .bvc 0x12, .eorIzy 0x12, .kil52, .sreIzy 0x12, .nopZpx54 0x12, .eorZpx 0x12, .lsrZpx 0x12, .sreZpx 0x12, .cli,
    .eorAby 0x3412, .nop5A, .sreAby 0x3412, .nopAbx5C 0x3412, .eorAbx 0x3412, .lsrAbx 0x3412, .sreAbx 0x3412] : List Instr).map some := by decide

theorem test_decode_row_6 : [
    (8, 0x60), (16, 0x1261), (8, 0x62), (16, 0x1263), (16, 0x1264), (16, 0x1265), (16, 0x1266), (16, 0x1267),
    (8, 0x68), (16, 0x1269), (8, 0x6A), (16, 0x126B), (24, 0x34126C), (24, 0x34126D), (24, 0x34126E), (24, 0x34126F)].map (fun w => decodeTableWord w.1 w.2) = ([
    .rts, .adcIzx 0x12, .kil62, .rraIzx 0x12, .nopZp64 0x12, .adcZp 0x12, .rorZp 0x12, .rraZp 0x12, .pla,
    .adcImm 0x12, .rorAcc, .arr 0x12, .jmpInd 0x3412, .adcAbs 0x3412, .rorAbs 0x3412, .rraAbs 0x3412] : List Instr).map some := by decide

theorem test_decode_row_7 : [
    (16, 0x1270), (16, 0x1271), (8, 0x72), (16, 0x1273), (16, 0x1274), (16, 0x1275), (16, 0x1276), (16, 0x1277),
    (8, 0x78), (24, 0x341279), (8, 0x7A), (24, 0x34127B), (24, 0x34127C), (24, 0x34127D), (24, 0x34127E),
    (24, 0x34127F)].map (fun w => decodeTableWord w.1 w.2) = ([
    .bvs 0x12, .adcIzy 0x12, .kil72, .rraIzy 0x12, .nopZpx74 0x12, .adcZpx 0x12, .rorZpx 0x12, .rraZpx 0x12, .sei,
    .adcAby 0x3412, .nop7A, .rraAby 0x3412, .nopAbx7C 0x3412, .adcAbx 0x3412, .rorAbx 0x3412, .rraAbx 0x3412] : List Instr).map some := by decide

theorem test_decode_row_8 : [
    (16, 0x1280), (16, 0x1281), (16, 0x1282), (16, 0x1283), (16, 0x1284), (16, 0x1285), (16, 0x1286), (16, 0x1287),
    (8, 0x88), (16, 0x1289), (8, 0x8A), (16, 0x128B), (24, 0x34128C), (24, 0x34128D), (24, 0x34128E), (24, 0x34128F)].map (fun w => decodeTableWord w.1 w.2) = ([
    .nopImm80 0x12, .staIzx 0x12, .nopImm82 0x12, .saxIzx 0x12, .styZp 0x12, .staZp 0x12, .stxZp 0x12, .saxZp 0x12,
    .dey, .nopImm89 0x12, .txa, .xaa 0x12, .styAbs 0x3412, .staAbs 0x3412, .stxAbs 0x3412, .saxAbs 0x3412] : List Instr).map some := by decide

theorem test_decode_row_9 : [
    (16, 0x1290), (16, 0x1291), (8, 0x92), (16, 0x1293), (16, 0x1294), (16, 0x1295), (16, 0x1296), (16, 0x1297),
    (8, 0x98), (24, 0x341299), (8, 0x9A), (24, 0x34129B), (24, 0x34129C), (24, 0x34129D), (24, 0x34129E),
    (24, 0x34129F)].map (fun w => decodeTableWord w.1 w.2) = ([
    .bcc 0x12, .staIzy 0x12, .kil92, .ahxIzy 0x12, .styZpx 0x12, .staZpx 0x12, .stxZpy 0x12, .saxZpy 0x12, .tya,
    .staAby 0x3412, .txs, .tas 0x3412, .shy 0x3412, .staAbx 0x3412, .shx 0x3412, .ahxAby 0x3412] : List Instr).map some := by decide

theorem test_decode_row_A : [
    (16, 0x12A0), (16, 0x12A1), (16, 0x12A2), (16, 0x12A3), (16, 0x12A4), (16, 0x12A5), (16, 0x12A6), (16, 0x12A7),
    (8, 0xA8), (16, 0x12A9), (8, 0xAA), (16, 0x12AB), (24, 0x3412AC), (24, 0x3412AD), (24, 0x3412AE), (24, 0x3412AF)].map (fun w => decodeTableWord w.1 w.2) = ([
    .ldyImm 0x12, .ldaIzx 0x12, .ldxImm 0x12, .laxIzx 0x12, .ldyZp 0x12, .ldaZp 0x12, .ldxZp 0x12, .laxZp 0x12, .tay,
    .ldaImm 0x12, .tax, .laxImm 0x12, .ldyAbs 0x3412, .ldaAbs 0x3412, .ldxAbs 0x3412, .laxAbs 0x3412] : List Instr).map some := by decide

theorem test_decode_row_B : [
    (16, 0x12B0), (16, 0x12B1), (8, 0xB2), (16, 0x12B3), (16, 0x12B4), (16, 0x12B5), (16, 0x12B6), (16, 0x12B7),
    (8, 0xB8), (24, 0x3412B9), (8, 0xBA), (24, 0x3412BB), (24, 0x3412BC), (24, 0x3412BD), (24, 0x3412BE),
    (24, 0x3412BF)].map (fun w => decodeTableWord w.1 w.2) = ([
    .bcs 0x12, .ldaIzy 0x12, .kilB2, .laxIzy 0x12, .ldyZpx 0x12, .ldaZpx 0x12, .ldxZpy 0x12, .laxZpy 0x12, .clv,
    .ldaAby 0x3412, .tsx, .las 0x3412, .ldyAbx 0x3412, .ldaAbx 0x3412, .ldxAby 0x3412, .laxAby 0x3412] : List Instr).map some := by decide

theorem test_decode_row_C : [
    (16, 0x12C0), (16, 0x12C1), (16, 0x12C2), (16, 0x12C3), (16, 0x12C4), (16, 0x12C5), (16, 0x12C6), (16, 0x12C7),
    (8, 0xC8), (16, 0x12C9), (8, 0xCA), (16, 0x12CB), (24, 0x3412CC), (24, 0x3412CD), (24, 0x3412CE), (24, 0x3412CF)].map (fun w => decodeTableWord w.1 w.2) = ([
    .cpyImm 0x12, .cmpIzx 0x12, .nopImmC2 0x12, .dcpIzx 0x12, .cpyZp 0x12, .cmpZp 0x12, .decZp 0x12, .dcpZp 0x12,
    .iny, .cmpImm 0x12, .dex, .axs 0x12, .cpyAbs 0x3412, .cmpAbs 0x3412, .decAbs 0x3412, .dcpAbs 0x3412] : List Instr).map some := by decide

theorem test_decode_row_D : [
    (16, 0x12D0), (16, 0x12D1), (8, 0xD2), (16, 0x12D3), (16, 0x12D4), (16, 0x12D5), (16, 0x12D6), (16, 0x12D7),
    (8, 0xD8), (24, 0x3412D9), (8, 0xDA), (24, 0x3412DB), (24, 0x3412DC), (24, 0x3412DD), (24, 0x3412DE),
    (24, 0x3412DF)].map (fun w => decodeTableWord w.1 w.2) = ([
    .bne 0x12, .cmpIzy 0x12, .kilD2, .dcpIzy 0x12, .nopZpxD4 0x12, .cmpZpx 0x12, .decZpx 0x12, .dcpZpx 0x12, .cld,
    .cmpAby 0x3412, .nopDA, .dcpAby 0x3412, .nopAbxDC 0x3412, .cmpAbx 0x3412, .decAbx 0x3412, .dcpAbx 0x3412] : List Instr).map some := by decide

theorem test_decode_row_E : [
    (16, 0x12E0), (16, 0x12E1), (16, 0x12E2), (16, 0x12E3), (16, 0x12E4), (16, 0x12E5), (16, 0x12E6), (16, 0x12E7),
    (8, 0xE8), (16, 0x12E9), (8, 0xEA), (16, 0x12EB), (24, 0x3412EC), (24, 0x3412ED), (24, 0x3412EE), (24, 0x3412EF)].map (fun w => decodeTableWord w.1 w.2) = ([
    .cpxImm 0x12, .sbcIzx 0x12, .nopImmE2 0x12, .iscIzx 0x12, .cpxZp 0x12, .sbcZp 0x12, .incZp 0x12, .iscZp 0x12,
    .inx, .sbcImm 0x12, .nop, .sbcImmEB 0x12, .cpxAbs 0x3412, .sbcAbs 0x3412, .incAbs 0x3412, .iscAbs 0x3412] : List Instr).map some := by decide

theorem test_decode_row_F : [
    (16, 0x12F0), (16, 0x12F1), (8, 0xF2), (16, 0x12F3), (16, 0x12F4), (16, 0x12F5), (16, 0x12F6), (16, 0x12F7),
    (8, 0xF8), (24, 0x3412F9), (8, 0xFA), (24, 0x3412FB), (24, 0x3412FC), (24, 0x3412FD), (24, 0x3412FE),
    (24, 0x3412FF)].map (fun w => decodeTableWord w.1 w.2) = ([
    .beq 0x12, .sbcIzy 0x12, .kilF2, .iscIzy 0x12, .nopZpxF4 0x12, .sbcZpx 0x12, .incZpx 0x12, .iscZpx 0x12, .sed,
    .sbcAby 0x3412, .nopFA, .iscAby 0x3412, .nopAbxFC 0x3412, .sbcAbx 0x3412, .incAbx 0x3412, .iscAbx 0x3412] : List Instr).map some := by decide

/-- Too short a string is rejected by name (R72). -/
theorem test_decode_rejects_short :
    decode [] = .error .noBytes ∧ decode [0xA9] = .error (.truncated 0xA9) ∧ decode [0x4C, 0x00] = .error (.truncated 0x4C) := by
  decide

/-! ### One step -/

/-- The defaults of section 2 of spec/95_test_vectors.md. -/
def vec : State := { State.reset with sp := 0xFF, i := false, mailbox := none }

/-- An id, the start state without memory, PC, the bytes in memory, and the state expected, as a change to the start. -/
abbrev Vector1 := String × State × Addr × List (Addr × Byte) × (State → State)

/-- The start state with its memory. -/
def startOf (v : Vector1) : State :=
  v.2.2.2.1.foldl (fun s c => s.placeByte c.1 c.2) { v.2.1 with pc := v.2.2.1 }

/-- The step gives the state the vector lists. -/
def passes (v : Vector1) : Bool :=
  match step (startOf v) with
  | .next t => decide (t = v.2.2.2.2 (startOf v))
  | _ => false

def failing (l : List Vector1) : List String := l.filterMap fun v => if passes v then none else some v.1

/-- Vectors V41 of spec/95_test_vectors.md section 3. -/
def vectors41 : List Vector1 :=
  [
    ("V41.1", { vec with a := 0x55 }, 0x0200,
      [(0x0200, 0xA9), (0x0201, 0x00)],
      fun s => { s with a := 0x00, pc := 0x0202, z := true, cycles := 2 }),
    ("V41.2", vec, 0x0200,
      [(0x0200, 0xA9), (0x0201, 0x80)],
      fun s => { s with a := 0x80, pc := 0x0202, n := true, cycles := 2 }),
    ("V41.3", { vec with x := 0x02 }, 0x0200,
      [(0x0001, 0x37), (0x0200, 0xB5), (0x0201, 0xFF)],
      fun s => { s with a := 0x37, pc := 0x0202, cycles := 4 }),
    ("V41.4", { vec with x := 0x01 }, 0x0200,
      [(0x0300, 0x44), (0x0200, 0xBD), (0x0201, 0xFF), (0x0202, 0x12)],
      fun s => { s with a := 0x44, pc := 0x0203, cycles := 5 }),
    ("V41.5", { vec with x := 0x01 }, 0x0200,
      [(0x02FF, 0x44), (0x0200, 0xBD), (0x0201, 0xFE), (0x0202, 0x02)],
      fun s => { s with a := 0x44, pc := 0x0203, cycles := 4 }),
    ("V41.6", { vec with x := 0x00 }, 0x0200,
      [(0x00FF, 0x34), (0x0000, 0x03), (0x0334, 0x66), (0x0200, 0xA1), (0x0201, 0xFF)],
      fun s => { s with a := 0x66, pc := 0x0202, cycles := 6 }),
    ("V41.7", { vec with y := 0x10 }, 0x0200,
      [(0x00FF, 0xF8), (0x0000, 0x03), (0x0408, 0x01), (0x0200, 0xB1), (0x0201, 0xFF)],
      fun s => { s with a := 0x01, pc := 0x0202, cycles := 6 }),
    ("V41.8", vec, 0x0200,
      [(0x0000, 0x5A), (0x0200, 0xAD), (0x0201, 0x00), (0x0202, 0x08)],
      fun s => { s with a := 0x5A, pc := 0x0203, cycles := 4 }),
    ("V41.9", { vec with y := 0x03 }, 0x0200,
      [(0x0002, 0xFE), (0x0200, 0xB6), (0x0201, 0xFF)],
      fun s => { s with x := 0xFE, pc := 0x0202, n := true, cycles := 4 }),
    ("V41.10", vec, 0x0200,
      [(0x0200, 0xA0), (0x0201, 0x00)],
      fun s => { s with pc := 0x0202, z := true, cycles := 2 }),
    ("V41.11", { vec with a := 0x42, x := 0x01 }, 0x0200,
      [(0x0200, 0x9D), (0x0201, 0xFF), (0x0202, 0x02)],
      fun s => { s with pc := 0x0203, cycles := 5, ram := s.ram.set 0x300 0x42 })
  ] ++ [
    ("V41.12", { vec with a := 0x42, y := 0x01 }, 0x0200,
      [(0x0040, 0xFF), (0x0041, 0x02), (0x0200, 0x91), (0x0201, 0x40)],
      fun s => { s with pc := 0x0202, cycles := 6, ram := s.ram.set 0x300 0x42 }),
    ("V41.13", { vec with a := 0x00, n := true, z := false }, 0x0200,
      [(0x0200, 0x85), (0x0201, 0x10)],
      fun s => { s with pc := 0x0202, cycles := 3, ram := s.ram.set 0x010 0x00 }),
    ("V41.14", { vec with x := 0x07, y := 0x05 }, 0x0200,
      [(0x0200, 0x96), (0x0201, 0xFE)],
      fun s => { s with pc := 0x0202, cycles := 4, ram := s.ram.set 0x003 0x07 }),
    ("V41.15", { vec with y := 0x09 }, 0x0200,
      [(0x0200, 0x8C), (0x0201, 0x34), (0x0202, 0x12)],
      fun s => { s with pc := 0x0203, cycles := 4, ram := s.ram.set 0x234 0x09 }),
    ("V41.16", { vec with a := 0x80 }, 0x0200,
      [(0x0200, 0xAA)],
      fun s => { s with x := 0x80, pc := 0x0201, n := true, cycles := 2 }),
    ("V41.17", { vec with a := 0x00, y := 0x11 }, 0x0200,
      [(0x0200, 0xA8)],
      fun s => { s with y := 0x00, pc := 0x0201, z := true, cycles := 2 }),
    ("V41.18", { vec with x := 0x7F }, 0x0200,
      [(0x0200, 0x8A)],
      fun s => { s with a := 0x7F, pc := 0x0201, cycles := 2 }),
    ("V41.19", { vec with y := 0xFE }, 0x0200,
      [(0x0200, 0x98)],
      fun s => { s with a := 0xFE, pc := 0x0201, n := true, cycles := 2 }),
    ("V41.20", { vec with x := 0x11, sp := 0x00 }, 0x0200,
      [(0x0200, 0xBA)],
      fun s => { s with x := 0x00, pc := 0x0201, z := true, cycles := 2 }),
    ("V41.21", { vec with x := 0x00, n := true }, 0x0200,
      [(0x0200, 0x9A)],
      fun s => { s with sp := 0x00, pc := 0x0201, cycles := 2 })
  ]

theorem test_loads_stores_transfers : failing vectors41 = [] := by decide

/-- Vectors V42 of spec/95_test_vectors.md section 3. -/
def vectors42 : List Vector1 :=
  [
    ("V42.1", { vec with a := 0x42, sp := 0xFF }, 0x0200,
      [(0x0200, 0x48)],
      fun s => { s with sp := 0xFE, pc := 0x0201, cycles := 3, ram := s.ram.set 0x1FE 0x42 }),
    ("V42.2", { vec with a := 0x42, sp := 0x00 }, 0x0200,
      [(0x0200, 0x48)],
      fun s => { s with sp := 0xFF, pc := 0x0201, cycles := 3, ram := s.ram.set 0x1FF 0x42 }),
    ("V42.3", { vec with sp := 0xFF, n := true, c := true }, 0x0200,
      [(0x0200, 0x08)],
      fun s => { s with sp := 0xFE, pc := 0x0201, cycles := 3, ram := s.ram.set 0x1FE 0xB1 }),
    ("V42.4", { vec with sp := 0xFF }, 0x0200,
      [(0x0200, 0x08)],
      fun s => { s with sp := 0xFE, pc := 0x0201, cycles := 3, ram := s.ram.set 0x1FE 0x30 }),
    ("V42.5", { vec with a := 0x11, sp := 0xFE }, 0x0200,
      [(0x01FE, 0x00), (0x0200, 0x68)],
      fun s => { s with a := 0x00, sp := 0xFF, pc := 0x0201, z := true, cycles := 4 }),
    ("V42.6", { vec with sp := 0xFF }, 0x0200,
      [(0x01FF, 0x80), (0x0200, 0x68)],
      fun s => { s with a := 0x80, sp := 0x00, pc := 0x0201, n := true, cycles := 4 }),
    ("V42.7", { vec with sp := 0xFE }, 0x0200,
      [(0x01FE, 0xFF), (0x0200, 0x28)],
      fun s => { s with sp := 0xFF, pc := 0x0201, n := true, v := true, d := true, i := true, z := true, c := true, cycles := 4 }),
    ("V42.8", { vec with sp := 0xFE, n := true, v := true, d := true, i := true, z := true, c := true }, 0x0200,
      [(0x01FE, 0x30), (0x0200, 0x28)],
      fun s => { s with sp := 0xFF, pc := 0x0201, n := false, v := false, d := false, i := false, z := false, c := false, cycles := 4 })
  ]

theorem test_stack : failing vectors42 = [] := by decide

/-- Vectors V43 of spec/95_test_vectors.md section 3. -/
def vectors43 : List Vector1 :=
  [
    ("V43.1", { vec with a := 0xFF }, 0x0200,
      [(0x0010, 0x01), (0x0200, 0x69), (0x0201, 0x01)],
      fun s => { s with a := 0x00, pc := 0x0202, z := true, c := true, cycles := 2 }),
    ("V43.2", { vec with a := 0x7F }, 0x0200,
      [(0x0200, 0x69), (0x0201, 0x01)],
      fun s => { s with a := 0x80, pc := 0x0202, n := true, v := true, cycles := 2 }),
    ("V43.3", { vec with a := 0x80 }, 0x0200,
      [(0x0200, 0x69), (0x0201, 0x80)],
      fun s => { s with a := 0x00, pc := 0x0202, v := true, z := true, c := true, cycles := 2 }),
    ("V43.4", { vec with a := 0xFF, c := true }, 0x0200,
      [(0x0200, 0x69), (0x0201, 0xFF)],
      fun s => { s with pc := 0x0202, n := true, cycles := 2 }),
    ("V43.5", { vec with a := 0x01, c := true }, 0x0200,
      [(0x0200, 0x69), (0x0201, 0x01)],
      fun s => { s with a := 0x03, pc := 0x0202, c := false, cycles := 2 }),
    ("V43.6", { vec with a := 0x01, y := 0x01 }, 0x0200,
      [(0x0300, 0x02), (0x0200, 0x79), (0x0201, 0xFF), (0x0202, 0x02)],
      fun s => { s with a := 0x03, pc := 0x0203, cycles := 5 }),
    ("V43.7", { vec with a := 0x00, c := true }, 0x0200,
      [(0x0200, 0xE9), (0x0201, 0x01)],
      fun s => { s with a := 0xFF, pc := 0x0202, n := true, c := false, cycles := 2 }),
    ("V43.8", { vec with a := 0x50, c := true }, 0x0200,
      [(0x0200, 0xE9), (0x0201, 0xB0)],
      fun s => { s with a := 0xA0, pc := 0x0202, n := true, v := true, c := false, cycles := 2 }),
    ("V43.9", { vec with a := 0x80, c := true }, 0x0200,
      [(0x0200, 0xE9), (0x0201, 0x01)],
      fun s => { s with a := 0x7F, pc := 0x0202, v := true, cycles := 2 }),
    ("V43.10", { vec with a := 0x05, c := false }, 0x0200,
      [(0x0200, 0xE9), (0x0201, 0x03)],
      fun s => { s with a := 0x01, pc := 0x0202, c := true, cycles := 2 }),
    ("V43.11", { vec with a := 0x50, c := true }, 0x0200,
      [(0x0200, 0xE9), (0x0201, 0xF0)],
      fun s => { s with a := 0x60, pc := 0x0202, c := false, cycles := 2 }),
    ("V43.12", { vec with a := 0x42, c := true }, 0x0200,
      [(0x0200, 0xE9), (0x0201, 0x42)],
      fun s => { s with a := 0x00, pc := 0x0202, z := true, cycles := 2 })
  ] ++ [
    ("V43.13", { vec with a := 0x10, c := true }, 0x0200,
      [(0x0200, 0xEB), (0x0201, 0x01)],
      fun s => { s with a := 0x0F, pc := 0x0202, cycles := 2 }),
    ("V43.14", { vec with a := 0xF0 }, 0x0200,
      [(0x0200, 0x29), (0x0201, 0x0F)],
      fun s => { s with a := 0x00, pc := 0x0202, z := true, cycles := 2 }),
    ("V43.15", { vec with a := 0x01 }, 0x0200,
      [(0x0200, 0x09), (0x0201, 0x80)],
      fun s => { s with a := 0x81, pc := 0x0202, n := true, cycles := 2 }),
    ("V43.16", { vec with a := 0xFF }, 0x0200,
      [(0x0200, 0x49), (0x0201, 0xFF)],
      fun s => { s with a := 0x00, pc := 0x0202, z := true, cycles := 2 }),
    ("V43.17", { vec with a := 0x05 }, 0x0200,
      [(0x0200, 0xC9), (0x0201, 0x05)],
      fun s => { s with pc := 0x0202, z := true, c := true, cycles := 2 }),
    ("V43.18", { vec with a := 0x03 }, 0x0200,
      [(0x0200, 0xC9), (0x0201, 0x05)],
      fun s => { s with pc := 0x0202, n := true, cycles := 2 }),
    ("V43.19", { vec with a := 0x80 }, 0x0200,
      [(0x0200, 0xC9), (0x0201, 0x01)],
      fun s => { s with pc := 0x0202, c := true, cycles := 2 }),
    ("V43.20", { vec with a := 0x00, v := true }, 0x0200,
      [(0x0200, 0xC9), (0x0201, 0xFF)],
      fun s => { s with pc := 0x0202, cycles := 2 }),
    ("V43.21", { vec with x := 0x05 }, 0x0200,
      [(0x0200, 0xE0), (0x0201, 0x05)],
      fun s => { s with pc := 0x0202, z := true, c := true, cycles := 2 }),
    ("V43.22", { vec with y := 0x10 }, 0x0200,
      [(0x0200, 0xC0), (0x0201, 0x20)],
      fun s => { s with pc := 0x0202, n := true, cycles := 2 }),
    ("V43.23", { vec with a := 0x01 }, 0x0200,
      [(0x0010, 0xC0), (0x0200, 0x24), (0x0201, 0x10)],
      fun s => { s with pc := 0x0202, n := true, v := true, z := true, cycles := 3 }),
    ("V43.24", { vec with a := 0xFF, n := true, v := true, z := true }, 0x0200,
      [(0x0010, 0x3F), (0x0200, 0x24), (0x0201, 0x10)],
      fun s => { s with pc := 0x0202, n := false, v := false, z := false, cycles := 3 })
  ]

theorem test_arithmetic_logic : failing vectors43 = [] := by decide

/-- Vectors V44 of spec/95_test_vectors.md section 3. -/
def vectors44 : List Vector1 :=
  [
    ("V44.1", vec, 0x0200,
      [(0x0010, 0xFF), (0x0200, 0xE6), (0x0201, 0x10)],
      fun s => { s with pc := 0x0202, z := true, cycles := 5, ram := s.ram.set 0x010 0x00 }),
    ("V44.2", vec, 0x0200,
      [(0x0010, 0x7F), (0x0200, 0xE6), (0x0201, 0x10)],
      fun s => { s with pc := 0x0202, n := true, cycles := 5, ram := s.ram.set 0x010 0x80 }),
    ("V44.3", { vec with x := 0x01 }, 0x0200,
      [(0x0300, 0x01), (0x0200, 0xFE), (0x0201, 0xFF), (0x0202, 0x02)],
      fun s => { s with pc := 0x0203, cycles := 7, ram := s.ram.set 0x300 0x02 }),
    ("V44.4", vec, 0x0200,
      [(0x0020, 0x00), (0x0200, 0xC6), (0x0201, 0x20)],
      fun s => { s with pc := 0x0202, n := true, cycles := 5, ram := s.ram.set 0x020 0xFF }),
    ("V44.5", vec, 0x0200,
      [(0x0020, 0x01), (0x0200, 0xC6), (0x0201, 0x20)],
      fun s => { s with pc := 0x0202, z := true, cycles := 5, ram := s.ram.set 0x020 0x00 }),
    ("V44.6", { vec with x := 0xFF }, 0x0200,
      [(0x0200, 0xE8)],
      fun s => { s with x := 0x00, pc := 0x0201, z := true, cycles := 2 }),
    ("V44.7", { vec with y := 0x7F }, 0x0200,
      [(0x0200, 0xC8)],
      fun s => { s with y := 0x80, pc := 0x0201, n := true, cycles := 2 }),
    ("V44.8", { vec with x := 0x00 }, 0x0200,
      [(0x0200, 0xCA)],
      fun s => { s with x := 0xFF, pc := 0x0201, n := true, cycles := 2 }),
    ("V44.9", { vec with y := 0x80 }, 0x0200,
      [(0x0200, 0x88)],
      fun s => { s with y := 0x7F, pc := 0x0201, cycles := 2 })
  ]

theorem test_inc_dec : failing vectors44 = [] := by decide

/-- Vectors V45 of spec/95_test_vectors.md section 3. -/
def vectors45 : List Vector1 :=
  [
    ("V45.1", { vec with a := 0x41 }, 0x0200,
      [(0x0200, 0x0A)],
      fun s => { s with a := 0x82, pc := 0x0201, n := true, cycles := 2 }),
    ("V45.2", { vec with a := 0x80 }, 0x0200,
      [(0x0200, 0x0A)],
      fun s => { s with a := 0x00, pc := 0x0201, z := true, c := true, cycles := 2 }),
    ("V45.3", vec, 0x0200,
      [(0x0010, 0xC0), (0x0200, 0x06), (0x0201, 0x10)],
      fun s => { s with pc := 0x0202, n := true, c := true, cycles := 5, ram := s.ram.set 0x010 0x80 }),
    ("V45.4", { vec with a := 0x01 }, 0x0200,
      [(0x0200, 0x4A)],
      fun s => { s with a := 0x00, pc := 0x0201, z := true, c := true, cycles := 2 }),
    ("V45.5", { vec with n := true }, 0x0200,
      [(0x0010, 0x03), (0x0200, 0x46), (0x0201, 0x10)],
      fun s => { s with pc := 0x0202, n := false, c := true, cycles := 5, ram := s.ram.set 0x010 0x01 }),
    ("V45.6", { vec with a := 0x40, c := true }, 0x0200,
      [(0x0200, 0x2A)],
      fun s => { s with a := 0x81, pc := 0x0201, n := true, c := false, cycles := 2 }),
    ("V45.7", { vec with a := 0x80, c := false }, 0x0200,
      [(0x0200, 0x2A)],
      fun s => { s with a := 0x00, pc := 0x0201, z := true, c := true, cycles := 2 }),
    ("V45.8", { vec with a := 0x02, c := true }, 0x0200,
      [(0x0200, 0x6A)],
      fun s => { s with a := 0x81, pc := 0x0201, n := true, c := false, cycles := 2 }),
    ("V45.9", { vec with a := 0x01, c := false }, 0x0200,
      [(0x0200, 0x6A)],
      fun s => { s with a := 0x00, pc := 0x0201, z := true, c := true, cycles := 2 }),
    ("V45.10", { vec with x := 0x01, c := true }, 0x0200,
      [(0x0300, 0x00), (0x0200, 0x7E), (0x0201, 0xFF), (0x0202, 0x02)],
      fun s => { s with pc := 0x0203, n := true, c := false, cycles := 7, ram := s.ram.set 0x300 0x80 })
  ]

theorem test_shifts : failing vectors45 = [] := by decide

/-- Vectors V46 of spec/95_test_vectors.md section 3. -/
def vectors46 : List Vector1 :=
  [
    ("V46.1", vec, 0x0200,
      [(0x0200, 0x4C), (0x0201, 0x34), (0x0202, 0x12)],
      fun s => { s with pc := 0x1234, cycles := 3 }),
    ("V46.2", vec, 0x0400,
      [(0x02FF, 0x00), (0x0200, 0x03), (0x0300, 0x04), (0x0400, 0x6C), (0x0401, 0xFF), (0x0402, 0x02)],
      fun s => { s with pc := 0x0300, cycles := 5 }),
    ("V46.3a", vec, 0x0200,
      [(0x02FF, 0x00), (0x0200, 0x6C), (0x0201, 0xFF), (0x0202, 0x02)],
      fun s => { s with pc := 0x6C00, cycles := 5 }),
    ("V46.3", vec, 0x0200,
      [(0x0310, 0x00), (0x0311, 0x04), (0x0200, 0x6C), (0x0201, 0x10), (0x0202, 0x03)],
      fun s => { s with pc := 0x0400, cycles := 5 }),
    ("V46.4", { vec with sp := 0xFF }, 0x0200,
      [(0x0200, 0x20), (0x0201, 0x00), (0x0202, 0x03)],
      fun s => { s with sp := 0xFD, pc := 0x0300, cycles := 6, ram := (s.ram.set 0x1FE 0x02).set 0x1FD 0x02 }),
    ("V46.5", { vec with sp := 0x00 }, 0x0200,
      [(0x0200, 0x20), (0x0201, 0x00), (0x0202, 0x03)],
      fun s => { s with sp := 0xFE, pc := 0x0300, cycles := 6, ram := (s.ram.set 0x1FF 0x02).set 0x1FE 0x02 }),
    ("V46.6", { vec with sp := 0xFF }, 0x8120,
      [(0x8000, 0xEA), (0x8120, 0x20), (0x8121, 0x00), (0x8122, 0x80)],
      fun s => { s with sp := 0xFD, pc := 0x8000, cycles := 6, ram := (s.ram.set 0x1FE 0x81).set 0x1FD 0x22 }),
    ("V46.7", { vec with sp := 0xFD }, 0x0200,
      [(0x01FD, 0x22), (0x01FE, 0x81), (0x0200, 0x60)],
      fun s => { s with sp := 0xFF, pc := 0x8123, cycles := 6 }),
    ("V46.8", { vec with sp := 0xFD }, 0x0200,
      [(0x01FD, 0xFF), (0x01FE, 0xFF), (0x0200, 0x60)],
      fun s => { s with sp := 0xFF, pc := 0x0000, cycles := 6 }),
    ("V46.9", { vec with sp := 0xFA, i := true }, 0x0200,
      [(0x01FA, 0x20), (0x01FB, 0x34), (0x01FC, 0x12), (0x0200, 0x40)],
      fun s => { s with sp := 0xFD, pc := 0x1234, i := false, cycles := 6 }),
    ("V46.10", { vec with sp := 0xFC }, 0x0200,
      [(0x01FC, 0xFF), (0x01FD, 0x00), (0x01FE, 0x03), (0x0200, 0x40)],
      fun s => { s with sp := 0xFF, pc := 0x0300, n := true, v := true, d := true, i := true, z := true, c := true, cycles := 6 }),
    ("V46.11", { vec with sp := 0xFF }, 0x0200,
      [(0xFFFE, 0x00), (0xFFFF, 0x90), (0x0200, 0x00)],
      fun s => { s with sp := 0xFC, pc := 0x9000, i := true, cycles := 7, ram := ((s.ram.set 0x1FE 0x02).set 0x1FD 0x02).set 0x1FC 0x30 }),
    ("V46.12", { vec with sp := 0xFF, i := true, c := true }, 0x0200,
      [(0xFFFE, 0x00), (0xFFFF, 0x90), (0x0200, 0x00)],
      fun s => { s with sp := 0xFC, pc := 0x9000, cycles := 7, ram := ((s.ram.set 0x1FE 0x02).set 0x1FD 0x02).set 0x1FC 0x35 })
  ] ++ [
    ("V46.13", { vec with c := false }, 0x0200,
      [(0x0200, 0x90), (0x0201, 0x10)],
      fun s => { s with pc := 0x0212, cycles := 3 }),
    ("V46.14", { vec with c := true }, 0x0200,
      [(0x0200, 0x90), (0x0201, 0x10)],
      fun s => { s with pc := 0x0202, cycles := 2 }),
    ("V46.15", { vec with c := true }, 0x0200,
      [(0x0200, 0xB0), (0x0201, 0xFC)],
      fun s => { s with pc := 0x01FE, cycles := 4 }),
    ("V46.16", { vec with z := true }, 0x02F0,
      [(0x02F0, 0xF0), (0x02F1, 0x7F)],
      fun s => { s with pc := 0x0371, cycles := 4 }),
    ("V46.17", { vec with z := true }, 0x02FD,
      [(0x02FD, 0xF0), (0x02FE, 0x01)],
      fun s => { s with pc := 0x0300, cycles := 4 }),
    ("V46.18", { vec with n := true }, 0x0210,
      [(0x0210, 0x30), (0x0211, 0x80)],
      fun s => { s with pc := 0x0192, cycles := 4 }),
    ("V46.19", { vec with z := false }, 0x0205,
      [(0x0205, 0xD0), (0x0206, 0xF9)],
      fun s => { s with pc := 0x0200, cycles := 3 }),
    ("V46.20", { vec with z := false }, 0x0200,
      [(0x0200, 0xD0), (0x0201, 0xFE)],
      fun s => { s with cycles := 3 }),
    ("V46.21", { vec with n := true }, 0x0200,
      [(0x0200, 0x10), (0x0201, 0x10)],
      fun s => { s with pc := 0x0202, cycles := 2 }),
    ("V46.22", { vec with v := false }, 0x0300,
      [(0x0300, 0x50), (0x0301, 0x00)],
      fun s => { s with pc := 0x0302, cycles := 3 }),
    ("V46.23", { vec with v := true }, 0xFFF0,
      [(0xFFF0, 0x70), (0xFFF1, 0x20)],
      fun s => { s with pc := 0x0012, cycles := 4 }),
    ("V46.24", { vec with v := true }, 0x0000,
      [(0x0000, 0x70), (0x0001, 0xFD)],
      fun s => { s with pc := 0xFFFF, cycles := 4 })
  ]

theorem test_control : failing vectors46 = [] := by decide

/-- Vectors V47 of spec/95_test_vectors.md section 3. -/
def vectors47 : List Vector1 :=
  [
    ("V47.1", { vec with n := true, c := true }, 0x0200,
      [(0x0200, 0x18)],
      fun s => { s with pc := 0x0201, c := false, cycles := 2 }),
    ("V47.2", { vec with d := true }, 0x0200,
      [(0x0200, 0xD8)],
      fun s => { s with pc := 0x0201, d := false, cycles := 2 }),
    ("V47.3", { vec with i := true }, 0x0200,
      [(0x0200, 0x58)],
      fun s => { s with pc := 0x0201, i := false, cycles := 2 }),
    ("V47.4", { vec with v := true }, 0x0200,
      [(0x0200, 0xB8)],
      fun s => { s with pc := 0x0201, v := false, cycles := 2 }),
    ("V47.5", { vec with c := false }, 0x0200,
      [(0x0200, 0x38)],
      fun s => { s with pc := 0x0201, c := true, cycles := 2 }),
    ("V47.6", { vec with d := false }, 0x0200,
      [(0x0200, 0xF8)],
      fun s => { s with pc := 0x0201, d := true, cycles := 2 }),
    ("V47.7", { vec with i := false }, 0x0200,
      [(0x0200, 0x78)],
      fun s => { s with pc := 0x0201, i := true, cycles := 2 }),
    ("V47.8", { vec with a := 0x12 }, 0x0200,
      [(0x0200, 0xEA)],
      fun s => { s with pc := 0x0201, cycles := 2 }),
    ("V47.9", vec, 0x0200,
      [(0x0200, 0x1A)],
      fun s => { s with pc := 0x0201, cycles := 2 }),
    ("V47.10", vec, 0x0200,
      [(0x0200, 0x80), (0x0201, 0xFF)],
      fun s => { s with pc := 0x0202, cycles := 2 }),
    ("V47.11", vec, 0x0200,
      [(0x0200, 0x04), (0x0201, 0x10)],
      fun s => { s with pc := 0x0202, cycles := 3 }),
    ("V47.12", vec, 0x0200,
      [(0x0200, 0x0C), (0x0201, 0x00), (0x0202, 0x03)],
      fun s => { s with pc := 0x0203, cycles := 4 }),
    ("V47.13", { vec with x := 0x01 }, 0x0200,
      [(0x0200, 0x1C), (0x0201, 0xFF), (0x0202, 0x02)],
      fun s => { s with pc := 0x0203, cycles := 5 }),
    ("V47.14", { vec with x := 0x01 }, 0x0200,
      [(0x0200, 0xF4), (0x0201, 0x10)],
      fun s => { s with pc := 0x0202, cycles := 4 })
  ]

theorem test_flags_nop : failing vectors47 = [] := by decide

/-- Vectors V48 of spec/95_test_vectors.md section 3, and the examples of the rules named. -/
def vectors48 : List Vector1 :=
  [
    ("V48.1", vec, 0x0200,
      [(0x0200, 0x02)],
      fun s => { s with pc := 0x0201, cycles := 2, faults := [.illegalOpcode 0x02 0x0200] }),
    ("V48.2", vec, 0x0200,
      [(0x0200, 0xF2)],
      fun s => { s with pc := 0x0201, cycles := 2, faults := [.illegalOpcode 0xF2 0x0200] }),
    ("V48.3", vec, 0x0300,
      [(0x0010, 0x55), (0x0300, 0x07), (0x0301, 0x10)],
      fun s => { s with pc := 0x0302, cycles := 5, faults := [.illegalOpcode 0x07 0x0300] }),
    ("V48.4", vec, 0x0200,
      [(0x0200, 0x2F), (0x0201, 0x00), (0x0202, 0x04)],
      fun s => { s with pc := 0x0203, cycles := 6, faults := [.illegalOpcode 0x2F 0x0200] }),
    ("V48.5", { vec with y := 0x01 }, 0x0200,
      [(0x0200, 0x7B), (0x0201, 0xFF), (0x0202, 0x02)],
      fun s => { s with pc := 0x0203, cycles := 7, faults := [.illegalOpcode 0x7B 0x0200] }),
    ("V48.6", { vec with a := 0xFF, x := 0xFF }, 0x0200,
      [(0x0200, 0x87), (0x0201, 0x10)],
      fun s => { s with pc := 0x0202, cycles := 3, faults := [.illegalOpcode 0x87 0x0200] }),
    ("V48.7", { vec with y := 0x01 }, 0x0200,
      [(0x0200, 0xBF), (0x0201, 0xFF), (0x0202, 0x02)],
      fun s => { s with pc := 0x0203, cycles := 5, faults := [.illegalOpcode 0xBF 0x0200] }),
    ("V48.8", { vec with y := 0x01 }, 0x0200,
      [(0x0040, 0xFF), (0x0041, 0x02), (0x0200, 0xB3), (0x0201, 0x40)],
      fun s => { s with pc := 0x0202, cycles := 6, faults := [.illegalOpcode 0xB3 0x0200] }),
    ("V48.9", { vec with x := 0x01 }, 0x0200,
      [(0x0200, 0xC3), (0x0201, 0xFF)],
      fun s => { s with pc := 0x0202, cycles := 8, faults := [.illegalOpcode 0xC3 0x0200] }),
    ("V48.10", vec, 0x0200,
      [(0x0200, 0xFF), (0x0201, 0x00), (0x0202, 0x10)],
      fun s => { s with pc := 0x0203, cycles := 7, faults := [.illegalOpcode 0xFF 0x0200] }),
    ("V48.11", vec, 0x0200,
      [(0x0200, 0x0B), (0x0201, 0x80)],
      fun s => { s with pc := 0x0202, cycles := 2, faults := [.illegalOpcode 0x0B 0x0200] })
  ] ++ [
    ("V48.12", { vec with sp := 0xFF }, 0x0200,
      [(0x0200, 0x9B), (0x0201, 0x00), (0x0202, 0x02)],
      fun s => { s with pc := 0x0203, cycles := 5, faults := [.illegalOpcode 0x9B 0x0200] }),
    ("V48.13", { vec with x := 0x01 }, 0x0200,
      [(0x0200, 0x9C), (0x0201, 0xFF), (0x0202, 0x02)],
      fun s => { s with pc := 0x0203, cycles := 5, faults := [.illegalOpcode 0x9C 0x0200] }),
    ("V48.14", { vec with y := 0x20 }, 0x0200,
      [(0x0200, 0xBB), (0x0201, 0xF0), (0x0202, 0x02)],
      fun s => { s with pc := 0x0203, cycles := 5, faults := [.illegalOpcode 0xBB 0x0200] }),
    ("V48.15", vec, 0xFFFF,
      [(0xFFFF, 0x02)],
      fun s => { s with pc := 0x0000, cycles := 2, faults := [.illegalOpcode 0x02 0xFFFF] }),
    ("R304", { vec with x := 0x02 }, 0x0200,
      [(0x0200, 0x57), (0x0201, 0xFF)],
      fun s => { s with pc := 0x0202, cycles := 6, faults := [.illegalOpcode 0x57 0x0200] }),
    ("R311", vec, 0x0200,
      [(0x0200, 0x4B), (0x0201, 0x01)],
      fun s => { s with pc := 0x0202, cycles := 2, faults := [.illegalOpcode 0x4B 0x0200] }),
    ("R312", vec, 0x0200,
      [(0x0200, 0x6B), (0x0201, 0x01)],
      fun s => { s with pc := 0x0202, cycles := 2, faults := [.illegalOpcode 0x6B 0x0200] }),
    ("R313", vec, 0x0200,
      [(0x0200, 0x8B), (0x0201, 0x00)],
      fun s => { s with pc := 0x0202, cycles := 2, faults := [.illegalOpcode 0x8B 0x0200] }),
    ("R314", vec, 0x0200,
      [(0x0200, 0xCB), (0x0201, 0x01)],
      fun s => { s with pc := 0x0202, cycles := 2, faults := [.illegalOpcode 0xCB 0x0200] }),
    ("R315", vec, 0x0200,
      [(0x0200, 0x9F), (0x0201, 0x00), (0x0202, 0x02)],
      fun s => { s with pc := 0x0203, cycles := 5, faults := [.illegalOpcode 0x9F 0x0200] }),
    ("R318", vec, 0x0200,
      [(0x0200, 0x9E), (0x0201, 0x00), (0x0202, 0x02)],
      fun s => { s with pc := 0x0203, cycles := 5, faults := [.illegalOpcode 0x9E 0x0200] })
  ]

theorem test_unimplemented : failing vectors48 = [] := by decide

/-- Vectors V60 of spec/95_test_vectors.md section 3. -/
def vectors60 : List Vector1 :=
  [
    ("V60.1", { vec with sp := 0xFF, n := true, i := false, mailbox := some .irq }, 0x0200,
      [(0x0300, 0xEA), (0xFFFE, 0x00), (0xFFFF, 0x03), (0x0200, 0xEA)],
      fun s => { s with sp := 0xFC, pc := 0x0301, i := true, mailbox := none, cycles := 9, ram := ((s.ram.set 0x1FE 0x02).set 0x1FD 0x00).set 0x1FC 0xA0 }),
    ("V60.2", { vec with sp := 0xFF, i := true, mailbox := some .irq }, 0x0200,
      [(0xFFFE, 0x00), (0xFFFF, 0x03), (0x0200, 0xEA)],
      fun s => { s with pc := 0x0201, mailbox := none, cycles := 2 }),
    ("V60.3", { vec with sp := 0xFF, i := true, c := true, mailbox := some .nmi }, 0x0200,
      [(0x0400, 0xE8), (0xFFFA, 0x00), (0xFFFB, 0x04), (0x0200, 0xEA)],
      fun s => { s with x := 0x01, sp := 0xFC, pc := 0x0401, mailbox := none, cycles := 9, ram := ((s.ram.set 0x1FE 0x02).set 0x1FD 0x00).set 0x1FC 0x25 }),
    ("V60.4", { vec with a := 0x77, sp := 0x12, d := true, i := false, mailbox := some .reset }, 0x0200,
      [(0x0500, 0xA9), (0x0501, 0x01), (0xFFFC, 0x00), (0xFFFD, 0x05), (0x0200, 0xEA)],
      fun s => { s with a := 0x01, pc := 0x0502, mailbox := none, cycles := 2 }),
    ("V60.5", { vec with sp := 0xFF, mailbox := some .nmi, stall := 3 }, 0x0200,
      [(0xFFFA, 0x00), (0xFFFB, 0x04), (0x0200, 0xEA)],
      fun s => { s with stall := 2, cycles := 1 }),
    ("V60.6", { vec with sp := 0xFF, i := false, mailbox := some .irq }, 0x0200,
      [(0x0300, 0x02), (0xFFFE, 0x00), (0xFFFF, 0x03), (0x0200, 0xEA)],
      fun s => { s with sp := 0xFC, pc := 0x0301, i := true, mailbox := none, cycles := 9, faults := [.illegalOpcode 0x02 0x0300], ram := ((s.ram.set 0x1FE 0x02).set 0x1FD 0x00).set 0x1FC 0x20 }),
    ("V60.7", { vec with sp := 0xFF, i := false, mailbox := some .irq }, 0x0200,
      [(0x0300, 0xC3), (0x0301, 0x10), (0xFFFE, 0x00), (0xFFFF, 0x03), (0x0200, 0xEA)],
      fun s => { s with sp := 0xFC, pc := 0x0302, i := true, mailbox := none, cycles := 15, faults := [.illegalOpcode 0xC3 0x0300], ram := ((s.ram.set 0x1FE 0x02).set 0x1FD 0x00).set 0x1FC 0x20 })
  ]

theorem test_interrupts : failing vectors60 = [] := by decide

/-- Decimal vectors V43.D1 to V43.D6, with BCD_ENABLED and D = 1: id, A, C, bytes, then A, C, V, N, Z. -/
def decimal : List (String × Byte × Bool × Byte × Byte × Byte × Bool × Bool × Bool × Bool) :=
  [ ("V43.D1", 0x15, false, 0x69, 0x27, 0x42, false, false, false, false),
    ("V43.D2", 0x99, false, 0x69, 0x01, 0x00, true, false, false, true),
    ("V43.D3", 0x45, true, 0x69, 0x45, 0x91, false, true, true, false),
    ("V43.D4", 0x42, true, 0xE9, 0x15, 0x27, true, false, false, false),
    ("V43.D5", 0x00, true, 0xE9, 0x01, 0x99, false, false, true, false),
    ("V43.D6", 0x10, true, 0xE9, 0x01, 0x09, true, false, false, false) ]

theorem test_decimal :
    failing (decimal.map fun (id, a, c, op, m, a', c', v', n', z') =>
      (id, { vec with a := a, c := c, d := true, params := { bcdEnabled := true } }, 0x0200, [(0x0200, op), (0x0201, m)],
        fun s => { s with a := a', c := c', v := v', n := n', z := z', pc := 0x0202, cycles := 2 })) = [] := by decide

/-- V43.D8: D is ignored when BCD_ENABLED is false. -/
theorem test_decimal_flag_is_ignored_without_bcd :
    passes ("V43.D8", { vec with a := 0x15, d := true }, 0x0200, [(0x0200, 0x69), (0x0201, 0x27)],
      fun s => { s with a := 0x3C, pc := 0x0202, cycles := 2 }) = true := by decide

/-- R321: with UNDOC_ALIASES false an alias slot is illegal. -/
theorem test_alias_slot_is_illegal_when_parameter_is_off :
    passes ("R321", { vec with params := { undocAliases := false } }, 0x0200, [(0x0200, 0xEB), (0x0201, 0x01)],
      fun s => { s with pc := 0x0202, cycles := 2, faults := [.illegalOpcode 0xEB 0x0200] }) = true := by decide

/-- S1: the page-wrap bug, through RAM mirrors. -/
theorem test_read_word_wrapped :
    let s := startOf ("S1", vec, 0x0200, [(0x00FF, 0x34), (0x0000, 0x12), (0x0100, 0x56)], id)
    (s.readWordWrapped 0x10FF).1 = 0x1234 ∧ (s.readWord 0x10FF).1 = 0x5634 := by decide

/-- Section 4's start state. -/
def hostStart (i : Bool) : State :=
  startOf ("H", { vec with i := i }, 0x0200, [(0x0200, 0xEA), (0x0300, 0xEA), (0x0400, 0xEA), (0x0500, 0xEA), (0xFFFA, 0x00),
    (0xFFFB, 0x04), (0xFFFC, 0x00), (0xFFFD, 0x05), (0xFFFE, 0x00), (0xFFFF, 0x03)], id)

/-- PC, SP and the cycles returned after the inputs and one step. -/
def hostResult (inputs : List HostInput) (i : Bool) : Option (Addr × Byte × Nat) :=
  match stepWith inputs (hostStart i) with
  | .next t => some (t.pc, t.sp, (stepOutput (hostStart i) t).1)
  | _ => none

/-- H1 to H5: the last request wins, a masked IRQ is dropped, a stall goes first. -/
theorem test_host_sequences :
    hostResult [.requestInterrupt .nmi, .requestInterrupt .irq] true = some (0x0201, 0xFF, 2)
    ∧ hostResult [.requestInterrupt .nmi, .requestInterrupt .irq] false = some (0x0301, 0xFC, 9)
    ∧ hostResult [.requestInterrupt .irq, .requestInterrupt .nmi] true = some (0x0401, 0xFC, 9)
    ∧ hostResult [.requestInterrupt .reset, .requestInterrupt .nmi] false = some (0x0401, 0xFC, 9)
    ∧ hostResult [.addStall 1, .requestInterrupt .irq] false = some (0x0200, 0xFF, 1) := by decide

/-- H6: P reads 0x20 with all flags 0. -/
theorem test_snapshot_p : vec.snapshot.p = 0x20 := by decide

/-- P1's first step: the pending Reset is serviced and the LDX at its target runs, in one step. -/
theorem test_first_step_after_power_on :
    passes ("P1", State.reset, 0x0000, [(0x0200, 0xA2), (0x0201, 0x05), (0xFFFC, 0x00), (0xFFFD, 0x02)],
      fun s => { s with x := 0x05, pc := 0x0202, mailbox := none, cycles := 2 }) = true := by decide

/-- R245: the end of P1 is at the self-loop. -/
theorem test_self_loop :
    (startOf ("P1", vec, 0x020E, [(0x020E, 0x4C), (0x020F, 0x0E), (0x0210, 0x02)], id)).runEnded = true
      ∧ (startOf ("P1", vec, 0x020E, [(0x020E, 0x4C), (0x020F, 0x0F), (0x0210, 0x02)], id)).runEnded = false
      ∧ (startOf ("P1", vec, 0x020E, [(0x020E, 0x6C), (0x020F, 0x0E), (0x0210, 0x02)], id)).runEnded = false := by decide

/-- A read of a peripheral register is seen once, an indexed read that crosses a page makes no dummy read (R254), and a
read-modify-write there reads once and writes once (R95). -/
theorem test_peripheral_transfers :
    (match step (startOf ("R254", { vec with x := 0x10 }, 0x0200, [(0x0200, 0xBD), (0x0201, 0xF8), (0x0202, 0x1F)], id)) with
      | .next t => decide (t.periph = [.read 0x2008] ∧ t.cycles = 5)
      | _ => false) = true
    ∧ (match step (startOf ("R95", vec, 0x0200, [(0x0200, 0x8E), (0x0201, 0x14), (0x0202, 0x40)], id)) with
      | .next t => decide (t.periph = [.write 0x4014 0x00])
      | _ => false) = true := by decide

/-- R187, R310: the byte of an Immediate NOP or ANC is not transferred, even where reading would be seen. -/
theorem test_unread_immediate :
    [0x80, 0x0B].map (fun op =>
      match step (startOf ("R187", vec, 0x1FFF, [(0x1FFF, op)], id)) with
      | .next t => decide (t.periph = [] ∧ t.pc = 0x2001)
      | _ => false) = [true, true] := by decide

/-! ### Witnesses: for each statement with hypotheses, a state and operands that meet them, each clause at a boundary -/

/-- Decimal mode on. -/
def dec : State := { vec with d := true, a := 0x99, params := { bcdEnabled := true } }
/-- Decimal mode on, with a digit above 9 in A. -/
def badDigit : State := { dec with a := 0x0A }
/-- UNDOC_ALIASES false. -/
def noAliases : State := { vec with params := { undocAliases := false } }
/-- A state with the instruction word where the next step fetches. -/
def at_ (nbits w : Nat) : State := vec.withFetchWord nbits w

theorem witness_EncodeOfDecodeIsTheBytes :
    decode [0xA9, 0xFF, 0xEA] = .ok (.ldaImm 0xFF, [0xEA]) ∧ decode [0x00] = .ok (.brk, []) := by decide

theorem witness_RamReadsBackThroughMirrors :
    (0x1FFF#16).toNat < 0x2000 ∧ (0x07FF#16).toNat < 0x2000 ∧ (0x1FFF#16).toNat % 0x800 = (0x07FF#16).toNat % 0x800
      ∧ 0x6000 ≤ (0x6000#16).toNat := by decide

theorem witness_TransfersOutsideRamReachTheirOwner :
    (0x2000 ≤ (0x2000#16).toNat ∧ (0x2000#16).toNat < 0x6000) ∧ (0x2000 ≤ (0x5FFF#16).toNat ∧ (0x5FFF#16).toNat < 0x6000)
      ∧ 0x6000 ≤ (0x6000#16).toNat ∧ 0x6000 ≤ (0xFFFF#16).toNat := by decide

theorem witness_WordReadsAreLittleEndianAndWrap :
    (0x10FE#16 &&& 0x00FF#16) ≠ 0x00FF#16 ∧ ¬(0x10FF#16 &&& 0x00FF#16) ≠ 0x00FF#16 := by decide

theorem witness_ReadyStateAdvancesAndCharges : (ready (.jmpInd 0x2000) vec).periph ≠ vec.periph := by decide

theorem witness_OperandReadsFollowTheMode :
    Instr.aslAcc.operand = .accumulator ∧ (Instr.ldaImm 0xFF).operand = .immediate 0xFF
      ∧ (Instr.ldaZp 0xFF).operand ≠ .accumulator ∧ ∀ k, (Instr.ldaZp 0xFF).operand ≠ .immediate k :=
  ⟨rfl, rfl, by decide, fun _ => nofun⟩

theorem witness_LoadsReadTheOperandIntoTheRegister :
    (Instr.ldaIzy 0xFF).mnemonic = .LDA ∧ (Instr.ldxZpy 0xFF).mnemonic = .LDX ∧ (Instr.ldyAbx 0xFFFF).mnemonic = .LDY := by
  decide

theorem witness_StoresWriteTheRegisterAtTheAddress :
    (Instr.staIzx 0xFF).mnemonic = .STA ∧ (Instr.stxZpy 0xFF).mnemonic = .STX ∧ (Instr.styAbs 0xFFFF).mnemonic = .STY := by
  decide

theorem witness_AdcAddsWithCarry :
    (Instr.adcImm 0x99).mnemonic = .ADC ∧ (vec.d && vec.params.bcdEnabled) = false
      ∧ (dec.d && dec.params.bcdEnabled) = true ∧ operandByte (.adcImm 0x99) dec = 0x99
      ∧ decide (dec.a.toNat / 16 ≤ 9 ∧ dec.a.toNat % 16 ≤ 9 ∧ (0x99#8).toNat / 16 ≤ 9 ∧ (0x99#8).toNat % 16 ≤ 9) = true
      ∧ (badDigit.d && badDigit.params.bcdEnabled) = true ∧ decide (badDigit.a.toNat % 16 ≤ 9) = false := by decide

theorem witness_SbcSubtractsWithBorrow :
    (Instr.sbcImmEB 0x99).mnemonic = .SBC ∧ handlerPresent (Instr.sbcImmEB 0x99).opcode vec.params = true
      ∧ (vec.d && vec.params.bcdEnabled) = false ∧ (Instr.sbcImm 0x99).mnemonic = .SBC
      ∧ handlerPresent (Instr.sbcImm 0x99).opcode dec.params = true ∧ (dec.d && dec.params.bcdEnabled) = true
      ∧ operandByte (.sbcImm 0x99) dec = 0x99
      ∧ decide (dec.a.toNat / 16 ≤ 9 ∧ dec.a.toNat % 16 ≤ 9 ∧ (0x99#8).toNat / 16 ≤ 9 ∧ (0x99#8).toNat % 16 ≤ 9) = true
      ∧ (badDigit.d && badDigit.params.bcdEnabled) = true ∧ decide (badDigit.a.toNat % 16 ≤ 9) = false := by decide

theorem witness_LogicCombinesBitwise :
    ((Instr.andImm 0x0F).mnemonic = .AND ∧ (0x0F#8) = 0xFF#8 &&& operandByte (.andImm 0x0F) vec)
      ∧ ((Instr.oraImm 0x0F).mnemonic = .ORA ∧ (0x0F#8) = vec.a ||| operandByte (.oraImm 0x0F) vec)
      ∧ ((Instr.eorImm 0xFF).mnemonic = .EOR ∧ (0xFF#8) = vec.a ^^^ operandByte (.eorImm 0xFF) vec)
      ∧ ((Instr.andImm 0x0F).mnemonic = .AND ∧ (0x00#8) = vec.a &&& operandByte (.andImm 0x0F) vec) := by decide

theorem witness_ComparesSetFlagsOnly :
    ((Instr.cmpImm 0xFF).mnemonic = .CMP ∧ (0x00#8) = vec.a) ∧ ((Instr.cpxImm 0xFF).mnemonic = .CPX ∧ (0x00#8) = vec.x)
      ∧ ((Instr.cpyImm 0xFF).mnemonic = .CPY ∧ (0x00#8) = vec.y) := by decide

theorem witness_BitTestsTheOperand : (Instr.bitAbs 0xFFFF).mnemonic = .BIT := by decide

/-- The zero-page byte 0x10 holds 0xFF, then 0x00: the operand of INC, DEC and the shifts below. -/
def ff10 : State := vec.placeByte 0x10 0xFF
def zero10 : State := vec.placeByte 0x10 0x00

theorem witness_IncDecWriteBackOnce :
    ((Instr.incZp 0x10).mnemonic = .INC ∧ (0x00#8).toNat = (operandByte (.incZp 0x10) ff10).toNat.succ % 256)
      ∧ ((Instr.decZp 0x10).mnemonic = .DEC ∧ (0xFF#8).toNat = ((operandByte (.decZp 0x10) zero10).toNat + 255) % 256) := by
  decide

theorem witness_ShiftsMoveOneBitThroughCarry :
    ((Instr.aslZp 0x10).mnemonic = .ASL ∧ (0xFE#8).toNat = 2 * (operandByte (.aslZp 0x10) ff10).toNat % 256
        ∧ true = (operandByte (.aslZp 0x10) ff10).getLsbD 7 ∧ (Instr.aslZp 0x10).operand ≠ .accumulator)
      ∧ (Instr.lsrAcc.mnemonic = .LSR ∧ (0x00#8).toNat = (operandByte .lsrAcc vec).toNat / 2
        ∧ false = (operandByte .lsrAcc vec).getLsbD 0 ∧ Instr.lsrAcc.operand = .accumulator)
      ∧ ((Instr.rolZp 0x10).mnemonic = .ROL
        ∧ (0xFE#8).toNat = (2 * (operandByte (.rolZp 0x10) ff10).toNat + ff10.c.toNat) % 256
        ∧ true = (operandByte (.rolZp 0x10) ff10).getLsbD 7)
      ∧ ((Instr.rorZp 0x10).mnemonic = .ROR
        ∧ (0x7F#8).toNat = (operandByte (.rorZp 0x10) ff10).toNat / 2 + 128 * ff10.c.toNat
        ∧ true = (operandByte (.rorZp 0x10) ff10).getLsbD 0) := by decide

theorem witness_BranchesTestOneFlag :
    (∃ taken, Instr.bne 0x80 = .bne 0x80 ∧ taken = !vec.z ∧ taken = true)
      ∧ ∃ taken, Instr.beq 0x7F = .beq 0x7F ∧ taken = vec.z ∧ taken = false :=
  ⟨⟨true, by decide⟩, ⟨false, by decide⟩⟩

theorem witness_NopOnlyAdvances :
    (Instr.nopAbxFC 0xFFFF).mnemonic = .NOP ∧ handlerPresent (Instr.nopAbxFC 0xFFFF).opcode vec.params = true
      ∧ Instr.nop.mnemonic = .NOP ∧ handlerPresent Instr.nop.opcode noAliases.params = true := by decide

theorem witness_OpcodesWithoutHandlerRecordIllegal :
    handlerPresent Instr.kil02.opcode vec.params = false
      ∧ handlerPresent (Instr.sbcImmEB 0xFF).opcode noAliases.params = false ∧ (Instr.sbcImmEB 0xFF).mnemonic = .SBC
      ∧ handlerPresent Instr.nop1A.opcode noAliases.params = false ∧ Instr.nop1A.mnemonic = .NOP := by decide

theorem witness_OnlyListedInstructionsWriteRegisters :
    (∃ t, exec .clc vec = .next t) ∧ (∃ t, exec (.aslZp 0x10) vec = .next t)
      ∧ Instr.clc.mnemonic ∉ [Mnemonic.LDA, .PLA, .TXA, .TYA, .ADC, .SBC, .AND, .ORA, .EOR]
      ∧ ¬(isShift (Instr.aslZp 0x10).mnemonic = true ∧ (Instr.aslZp 0x10).operand = .accumulator)
      ∧ Instr.clc.mnemonic ∉ [Mnemonic.LDX, .TAX, .TSX, .INX, .DEX]
      ∧ Instr.clc.mnemonic ∉ [Mnemonic.LDY, .TAY, .INY, .DEY]
      ∧ Instr.clc.mnemonic ∉ [Mnemonic.TXS, .PHA, .PHP, .PLA, .PLP, .JSR, .RTS, .RTI, .BRK]
      ∧ Instr.clc.mnemonic ∉
        [Mnemonic.JMP, .JSR, .RTS, .RTI, .BRK, .BCC, .BCS, .BEQ, .BMI, .BNE, .BPL, .BVC, .BVS] :=
  ⟨⟨_, rfl⟩, ⟨_, rfl⟩, by decide⟩

theorem witness_OnlyListedInstructionsWriteFlags :
    (∃ t, exec .nop vec = .next t)
      ∧ Instr.nop.mnemonic ∉ [Mnemonic.ADC, .SBC, .CMP, .CPX, .CPY, .ASL, .LSR, .ROL, .ROR, .CLC, .SEC, .PLP, .RTI]
      ∧ Instr.nop.mnemonic ∉ [Mnemonic.ADC, .SBC, .AND, .ORA, .EOR, .BIT, .CMP, .CPX, .CPY, .INC, .DEC, .INX, .INY, .DEX,
          .DEY, .ASL, .LSR, .ROL, .ROR, .LDA, .LDX, .LDY, .TAX, .TAY, .TXA, .TYA, .TSX, .PLA, .PLP, .RTI]
      ∧ Instr.nop.mnemonic ∉ [Mnemonic.SEI, .CLI, .PLP, .RTI, .BRK] ∧ Instr.nop.mnemonic ∉ [Mnemonic.SED, .CLD, .PLP, .RTI]
      ∧ Instr.nop.mnemonic ∉ [Mnemonic.ADC, .SBC, .BIT, .CLV, .PLP, .RTI] :=
  ⟨⟨_, rfl⟩, by decide⟩

theorem witness_InstructionsKeepTheBookkeeping : (∃ t, exec .nop vec = .next t) ∧ ∃ t, exec .kil02 vec = .next t :=
  ⟨⟨_, rfl⟩, ⟨_, rfl⟩⟩

theorem witness_NonStoringFormsKeepMemory :
    (∃ t, exec .aslAcc vec = .next t) ∧ storesAtEa .aslAcc = false ∧ pushes .aslAcc = false ∧ isMemory 0x1FFF = true
      ∧ isMemory 0x6000 = true :=
  ⟨⟨_, rfl⟩, by decide⟩

theorem witness_StoringFormsChangeOneByte :
    (∃ t, exec (.staAbs 0x1FFF) vec = .next t) ∧ eaOf (.staAbs 0x1FFF) vec = 0x1FFF
      ∧ (∃ t, exec (.staAbs 0x6000) { vec with params := { mapperWrites := .stored } } = .next t)
      ∧ eaOf (.staAbs 0x6000) vec = 0x6000 ∧ storesAtEa (.staAbs 0x6000) = true
      ∧ (∃ t, exec (.staAbs 0x2000) vec = .next t) ∧ eaOf (.staAbs 0x2000) vec = 0x2000
      ∧ (∃ t, exec (.incAbx 0x5FFF) vec = .next t) ∧ eaOf (.incAbx 0x5FFF) vec = 0x5FFF
      ∧ storesAtEa (.incAbx 0x5FFF) = true :=
  ⟨⟨_, rfl⟩, by decide, ⟨_, rfl⟩, by decide, by decide, ⟨_, rfl⟩, by decide, ⟨_, rfl⟩, by decide, by decide⟩

/-- SP = 0x01: the pushes of BRK wrap in page 0x01. -/
def low : State := { vec with sp := 0x01 }

theorem witness_PushingFormsChangeStackBytesOnly :
    (∃ t, exec .brk low = .next t) ∧ pushes .brk = true ∧ isMemory 0x01FD = true
      ∧ (0x01FD#16).toNat % 0x800 ≠ slotBelow 1 low ∧ (0x01FD#16).toNat % 0x800 ≠ slotBelow 2 low
      ∧ (0x01FD#16).toNat % 0x800 ≠ slotBelow 3 low
      ∧ [slotBelow 1 low, slotBelow 2 low, slotBelow 3 low] = [0x100, 0x1FF, 0x1FE] :=
  ⟨⟨_, rfl⟩, by decide⟩

theorem witness_ReturnsUndoTheirCalls :
    (∃ t u, exec (.jsr 0xFFFF) low = .next t ∧ exec .rts t = .next u)
      ∧ (∃ t u, exec .brk low = .next t ∧ exec .rti t = .next u)
      ∧ (∃ t u, exec .php low = .next t ∧ exec .plp t = .next u)
      ∧ ∃ t u, exec .pha low = .next t ∧ exec .pla t = .next u :=
  ⟨⟨_, _, rfl, rfl⟩, ⟨_, _, rfl, rfl⟩, ⟨_, _, rfl, rfl⟩, ⟨_, _, rfl, rfl⟩⟩

theorem witness_StallStepsComeFirstAndOthersEmptyTheMailbox :
    ({ vec with stall := 1 } : State).stuckAt = none ∧ 0 < ({ vec with stall := 1 } : State).stall
      ∧ (∃ t, step (at_ 8 0xEA) = .next t) ∧ (at_ 8 0xEA).stall = 0 :=
  ⟨by decide, by decide, ⟨_, rfl⟩, by decide⟩

theorem witness_StepRunsTheDecodedInstruction :
    (at_ 24 0xFFFFEE).stuckAt = none ∧ (at_ 24 0xFFFFEE).stall = 0 ∧ (at_ 24 0xFFFFEE).mailbox = none
      ∧ decode (at_ 24 0xFFFFEE).fetchBytes.1 = .ok (.incAbs 0xFFFF, [])
      ∧ isMemory (at_ 24 0xFFFFEE).pc = true ∧ isMemory ((at_ 24 0xFFFFEE).pc + 1) = true
      ∧ isMemory ((at_ 24 0xFFFFEE).pc + 2) = true
      ∧ decode [(at_ 24 0xFFFFEE).peek (at_ 24 0xFFFFEE).pc, (at_ 24 0xFFFFEE).peek ((at_ 24 0xFFFFEE).pc + 1),
          (at_ 24 0xFFFFEE).peek ((at_ 24 0xFFFFEE).pc + 2)] = .ok (.incAbs 0xFFFF, []) := by decide

theorem witness_FetchReadsTheInstructionsBytes :
    (optable ((at_ 8 0xEA).peek (at_ 8 0xEA).pc)).length = 1
      ∧ (optable ((at_ 16 0xA9).peek (at_ 16 0xA9).pc)).mode = .immediate
      ∧ (optable ((at_ 16 0xA5).peek (at_ 16 0xA5).pc)).length = 2
      ∧ (optable ((at_ 16 0xA5).peek (at_ 16 0xA5).pc)).mode ≠ .immediate
      ∧ (optable ((at_ 24 0xAD).peek (at_ 24 0xAD).pc)).length = 3 := by decide

theorem witness_InterruptsEnterThroughTheirVectors :
    let irq : State := { vec with mailbox := some .irq }
    let nmi : State := { vec with mailbox := some .nmi, i := true }
    irq.stuckAt = none ∧ irq.stall = 0 ∧ irq.mailbox = some .irq ∧ irq.i = false
      ∧ ({ irq with i := true } : State).stuckAt = none ∧ ({ irq with i := true } : State).i = true
      ∧ nmi.stuckAt = none ∧ nmi.stall = 0 ∧ nmi.mailbox = some .nmi := by decide

theorem witness_ResetChangesPcOnly :
    State.reset.stuckAt = none ∧ State.reset.stall = 0 ∧ State.reset.mailbox = some .reset := by decide

/-- Both outcomes of StepCompletesUnlessStuck occur. -/
theorem witness_StepCompletesUnlessStuck :
    (at_ 8 0x02).stuckAt = none ∧ ({ vec with faults := [.mapperViolation 0x5FFF] } : State).stuckAt = some 0x5FFF := by decide

theorem witness_StepCostsOneToFifteenCycles :
    (at_ 8 0xEA).params.interruptCycles = 7 ∧ (∃ t, step (at_ 8 0xEA) = .next t) ∧ (at_ 8 0xEA).stall = 0
      ∧ (∃ t, step { vec with stall := 1 } = .next t) ∧ 0 < ({ vec with stall := 1 } : State).stall :=
  ⟨by decide, ⟨_, rfl⟩, by decide, ⟨_, rfl⟩, by decide⟩

theorem witness_MapperViolationLeavesTheMachineStuck :
    (0x5FFF#16).toNat < 0x6000 ∧ 0x6000 ≤ (0x6000#16).toNat ∧ vec.stuckAt = none
      ∧ (∃ v, vec.mapperPortRead 0x6000 = .ok v) ∧ ∃ t, vec.mapperPortWrite 0x6000 0x12 = .ok t :=
  ⟨by decide, by decide, by decide, ⟨_, rfl⟩, ⟨_, rfl⟩⟩

theorem witness_CyclesAreNeverRead : ∃ t, step (at_ 24 0xFFFF7E) = .next t := ⟨_, rfl⟩

theorem witness_FaultRecordsAreSticky : (∃ t, step (at_ 8 0x02) = .next t) ∧ ∃ t, step (at_ 8 0xEA) = .next t :=
  ⟨⟨_, rfl⟩, ⟨_, rfl⟩⟩

/-- A state that a run reaches: power-on with a cartridge whose two listed bytes are the ends of the mapper window. -/
theorem witness_PowerOnHoldsTheSpecsValues :
    Memory.wf [(0x6000, 0xEA), (0xFFFF, 0x60)] ∧ Memory.within 0x6000 0x10000 [(0x6000, 0xEA), (0xFFFF, 0x60)] := by decide

theorem witness_ReachableStatesAreNeverStuck :
    Reachable (State.powerOnWith Draws.chosen {} [(0x6000, 0xEA), (0xFFFF, 0x60)]) :=
  .powerOn _ _ _ (by decide) (by decide)

theorem witness_EveryStepKeepsTheInvariant : (at_ 24 0x0300EE).Inv ∧ ∃ t, step (at_ 24 0x0300EE) = .next t :=
  ⟨⟨by decide, by decide, by decide, by decide, rfl, rfl⟩, ⟨_, rfl⟩⟩

theorem witness_HostPortFollowsItsRules :
    State.reset.params.mapperWrites = .anyEffect ∧ 0x6000 ≤ (0x6000#16).toNat ∧ 0x6000 ≤ (0xFFFF#16).toNat := by decide

theorem witness_PlacedWordRunsNext :
    State.reset.stuckAt = none ∧ decodeTableWord 24 0xFFFFEE = some (.incAbs 0xFFFF)
      ∧ ({ vec with pc := 0x2000, mailbox := some .irq } : State).stuckAt = none := by decide

end Sys2Proof.Machine.Tests
end

section
/-! PROOFS. The memory family (spec/20_memory.md): RAM transfers (R48, R49) and the byte stack (R62, R63, R66). -/

namespace Sys2Proof.Machine

/-! ### RAM transfers -/

/-- A RAM read answers the byte at the physical index and has no side effect. -/
theorem State.readByte_of_ram {a : Addr} (h : route a = .ram) (s : State) :
    s.readByte a = (s.ramByte (ramIndex a), s) := by
  have hmem : isMemory a = true := (isMemory_iff a).mpr (.inl h)
  have hpeek : s.peek a = s.ramByte (ramIndex a) := by simp [State.peek_def, h]
  rw [State.readByte, hpeek, State.touch_of_isMemory hmem]

/-- A RAM write is not seen in the mapper window. -/
theorem State.peek_writeByte_ram_of_mapper {a b : Addr} (ha : route a = .ram) (hb : route b = .mapper) (w : Byte)
    (s : State) : (s.writeByte a w).peek b = s.peek b := by
  simp [State.peek_writeByte_ram ha, hb]

/-- A RAM write is read back at the mirrors of its address and at no other RAM address. -/
theorem State.peek_writeByte_ram_of_ram {a b : Addr} (ha : route a = .ram) (hb : route b = .ram) (w : Byte)
    (s : State) : (s.writeByte a w).peek b = if ramIndex a = ramIndex b then w else s.peek b := by
  simp [State.peek_writeByte_ram ha, hb]

/-- Settles O7: each clause is the rule of one bus operation at an address routed to RAM. -/
theorem ramReadsBackThroughMirrors : Obligations.RamReadsBackThroughMirrors := by
  intro s a b w ha
  have hram : route a = .ram := (route_ram_iff a).mpr ha
  refine ⟨State.readByte_of_ram hram s, State.writeByte_of_ram hram w s, fun hb => ?_, fun hb => ?_⟩
  · exact State.peek_writeByte_ram_of_ram hram ((route_ram_iff b).mpr hb) w s
  · exact State.peek_writeByte_ram_of_mapper hram ((route_mapper_iff b).mpr hb) w s

/-! ### The byte stack -/

/-- The stack address as R62 and R63 write it: the page base or-ed with SP. -/
theorem stackAddr_eq_or (sp : Byte) : stackAddr sp = 0x0100#16 ||| sp.setWidth 16 := by
  rw [stackAddr, mkWord, BitVec.append_def]
  rfl

/-- A stack byte is the RAM byte at its address, with no reduction: page 0x01 is below the first mirror. -/
theorem State.peek_stackAddr (sp : Byte) (s : State) : s.peek (stackAddr sp) = s.ramByte (0x100 + sp.toNat) := by
  simp [State.peek_def]

/-- Settles O10: the two stack rules, with the byte pulled given by its bus address. -/
theorem pushAndPullFollowTheDiscipline : Obligations.PushAndPullFollowTheDiscipline := by
  intro s w
  refine ⟨State.push_eq w s, ?_⟩
  rw [State.pull_eq, ← stackAddr_eq_or, State.peek_stackAddr]

end Sys2Proof.Machine
end

section
/-! PROOFS. The dispatch family (spec/40_dispatch.md): the flag helpers (R96, R97), and which part of a step empties the
mailbox and which part takes from the stall counter (R81, R201). -/

namespace Sys2Proof.Machine

/-! ### The flag helpers -/

/-- Bytes are equal when their values are, in the form the flag helpers test it. -/
theorem byte_beq_eq_decide_toNat (p q : Byte) : (p == q) = decide (p.toNat = q.toNat) := by
  rw [Bool.eq_iff_iff, beq_iff_eq, decide_eq_true_iff, BitVec.toNat_inj]

/-- A difference is the zero byte exactly when its two bytes are equal. -/
theorem byte_sub_beq_zero (p q : Byte) : (p - q == 0) = (p == q) := by
  rw [Bool.eq_iff_iff, beq_iff_eq, beq_iff_eq, sub_eq_zero]

/-- Settles O13: each helper is a record update, whose Z is restated on the bytes' values. -/
theorem flagHelpersFollowTheirRules : Obligations.FlagHelpersFollowTheirRules := by
  intro s p q
  constructor
  · rw [State.setZN, byte_beq_eq_decide_toNat]
    rfl
  · rw [State.compare, State.setZN, byte_sub_beq_zero, byte_beq_eq_decide_toNat]
    rfl

/-! ### The stall step -/

/-- A stall that is owed is served first, whatever the mailbox holds (R81). -/
theorem step_of_stall {s : State} (h : s.stuckAt = none) (hp : 0 < s.stall) : step s = .next s.stallStep := by
  simp only [step, h, if_pos hp]

theorem stepOutput_stallStep (s : State) : stepOutput s s.stallStep = (1, none) := by
  simp [stepOutput, State.stallStep]

/-! ### Instructions leave the mailbox and the stall counter alone -/

/-- No handler touches the mailbox, the stall counter, the parameters, the RAM epoch or the fault list. One case per shape
of handler. -/
theorem handlerOf_keeps_bookkeeping (m : Mnemonic) (ctx : Ctx) (s : State) :
    (handlerOf m ctx s).mailbox = s.mailbox ∧ (handlerOf m ctx s).stall = s.stall
      ∧ (handlerOf m ctx s).params = s.params ∧ (handlerOf m ctx s).ramEpoch = s.ramEpoch
      ∧ (handlerOf m ctx s).faults = s.faults := by
  cases m
  case ADC | SBC => simp [handlerOf, handleAdc, handleSbc]
  case AND | ORA | EOR => simp [handlerOf, handleAnd, handleOra, handleEor]
  case CMP | CPX | CPY | BIT => simp [handlerOf, handleCmp, handleCpx, handleCpy, handleBit]
  case LDA | LDX | LDY => simp [handlerOf, handleLda, handleLdx, handleLdy]
  case STA | STX | STY => simp [handlerOf, handleSta, handleStx, handleSty]
  case INC | DEC => simp [handlerOf, handleInc, handleDec]
  case ASL | LSR | ROL | ROR => simp [handlerOf, handleAsl, handleLsr, handleRol, handleRor]
  case BCC | BCS | BEQ | BMI => simp [handlerOf, handleBcc, handleBcs, handleBeq, handleBmi]
  case BNE | BPL | BVC | BVS => simp [handlerOf, handleBne, handleBpl, handleBvc, handleBvs]
  case PHA | PHP | PLA | PLP => simp [handlerOf, handlePha, handlePhp, handlePla, handlePlp]
  case JSR | RTS | RTI => simp [handlerOf, handleJsr, handleRts, handleRti]
  case BRK =>
    rw [handlerOf, handleBrk, State.enterTrap_eq (by decide) (by decide)]
    exact ⟨rfl, rfl, rfl, rfl, rfl⟩
  -- What is left writes registers, flags and PC only, or nothing.
  all_goals exact ⟨rfl, rfl, rfl, rfl, rfl⟩

/-- An instruction keeps the mailbox, the stall counter, the parameters and the RAM epoch, with a handler or without. -/
theorem exec_keeps_bookkeeping {i : Instr} {s t : State} (h : exec i s = .next t) :
    t.mailbox = s.mailbox ∧ t.stall = s.stall ∧ t.params = s.params ∧ t.ramEpoch = s.ramEpoch := by
  obtain ⟨-, rfl⟩ | ⟨-, rfl⟩ := exec_cases h
  · obtain ⟨hm, hs, hp, he, -⟩ :=
      handlerOf_keeps_bookkeeping i.mnemonic (contextOf i.opcode i.operand s) (readyState i.opcode i.operand s)
    simp [hm, hs, hp, he]
  · simp [State.raiseIllegal]

@[simp] theorem State.fetched_mailbox (s : State) : s.fetched.mailbox = s.mailbox := by rw [State.fetched_eq]

@[simp] theorem State.fetched_stall (s : State) : s.fetched.stall = s.stall := by rw [State.fetched_eq]

/-- A step that completes with no stall owed ends with the mailbox empty and none owed: service empties the mailbox and
keeps the counter, and neither the fetch nor the instruction touches them. -/
theorem step_empties_mailbox {s t : State} (h : step s = .next t) (h0 : s.stall = 0) :
    t.mailbox = none ∧ t.stall = 0 := by
  obtain ⟨-, ⟨hp, -⟩ | ⟨-, hx⟩⟩ := step_cases h
  · omega
  · obtain ⟨hm, hs, -⟩ := exec_keeps_bookkeeping hx
    obtain ⟨hm', hs', -⟩ := s.serviceMailbox_keeps
    simp [hm, hs, hm', hs', h0]

/-- Settles O46, by the two cases of a step that completes. -/
theorem stallStepsComeFirstAndOthersEmptyTheMailbox : Obligations.StallStepsComeFirstAndOthersEmptyTheMailbox :=
  fun s _ => ⟨fun h hp => ⟨step_of_stall h hp, stepOutput_stallStep s⟩, step_empties_mailbox⟩

end Sys2Proof.Machine
end

section
/-! PROOFS. The load, store and transfer family (spec/41_load_store_transfer.md R100 to R111). -/

namespace Sys2Proof.Machine

/-! ### Loads -/

/-- Settles O18: each form runs the handler of its mnemonic on the operand read, whose flag helper tests the byte against
zero by `==`; the ROM's rows are evaluated. -/
theorem loadsReadTheOperandIntoTheRegister : Obligations.LoadsReadTheOperandIntoTheRegister := by
  refine ⟨fun i s => ?_, by decide, by decide, by decide⟩
  rw [← beq_eq_decide]
  refine ⟨fun h => ?lda, fun h => ?ldx, fun h => ?ldy⟩
  case lda => exact exec_of_mnemonic s h (by decide)
  case ldx => exact exec_of_mnemonic s h (by decide)
  case ldy => exact exec_of_mnemonic s h (by decide)

/-! ### Stores -/

/-- Steps 4 to 7 of R80 change no register, so a store's handler writes the register the instruction began with. -/
theorem ready_keeps_registers (i : Instr) (s : State) :
    (ready i s).a = s.a ∧ (ready i s).x = s.x ∧ (ready i s).y = s.y := by
  simp [ready, readyState_eq]

/-- Settles O19: each form runs the handler of its mnemonic, and the register it writes is that of the state given; the
ROM's rows are evaluated. -/
theorem storesWriteTheRegisterAtTheAddress : Obligations.StoresWriteTheRegisterAtTheAddress := by
  refine ⟨fun i s => ?_, by decide, by decide, by decide⟩
  obtain ⟨ha, hx, hy⟩ := ready_keeps_registers i s
  rw [← ha, ← hx, ← hy]
  refine ⟨fun h => ?sta, fun h => ?stx, fun h => ?sty⟩
  case sta => exact exec_of_mnemonic s h (by decide)
  case stx => exact exec_of_mnemonic s h (by decide)
  case sty => exact exec_of_mnemonic s h (by decide)

/-! ### Transfers -/

/-- An instruction without an operand is one byte long (R72). -/
theorem length_of_implied {i : Instr} (h : i.operand = .implied) : (optable i.opcode).length = 1 := by
  have hbytes : 0 = (optable i.opcode).length - 1 := by simpa [h, Operand.bytes] using bytes_length i
  have := (optable_length i.opcode).1
  omega

/-- The state handed to the handler of an instruction without an operand: PC past its one byte, its base cycles charged. -/
theorem readyState_of_implied {i : Instr} (h : i.operand = .implied) (s : State) :
    readyState i.opcode i.operand s =
      { s with pc := s.pc + 1, cycles := s.cycles + (optable i.opcode).baseCycles } := by
  rw [readyState_eq, length_of_implied h, h]
  rfl

/-- An Implied instruction of a documented mnemonic, other than NOP, runs its handler from there. -/
theorem exec_of_implied {i : Instr} {m : Mnemonic} (s : State) (hm : i.mnemonic = m) (ho : i.operand = .implied)
    (h : m ∉ undocumented ∧ m ≠ .NOP ∧ m ≠ .SBC) :
    exec i s = .next (handlerOf m (contextOf i.opcode i.operand s)
      { s with pc := s.pc + 1, cycles := s.cycles + (optable i.opcode).baseCycles }) := by
  rw [exec_of_mnemonic s hm h, readyState_of_implied ho]

/-- Settles O20: each transfer's handler, run past its one byte with its two base cycles charged. -/
theorem transfersCopyRegisters : Obligations.TransfersCopyRegisters := by
  intro s
  refine ⟨?tax, ?tay, ?txa, ?tya, ?tsx, ?txs, rfl, rfl, rfl, rfl, rfl, rfl⟩
  all_goals exact exec_of_implied s rfl rfl (by decide)

end Sys2Proof.Machine
end

section
/-! PROOFS. The stack family (spec/42_stack.md R120 to R123). -/

namespace Sys2Proof.Machine

/-! ### Bits 5 and 4 of the packed status -/

/-- A flag placed at a bit of a byte is read back there and nowhere else. -/
@[simp] theorem getElem_flagBit (f : Bool) (k : Nat) {j : Nat} (hj : j < 8) :
    (flagBit f k)[j] = (f && decide (j = k)) := by
  cases f
  · simp [flagBit]
  · exact BitVec.getElem_twoPow hj

/-- Bit 5 of the packed status is always 1 (R38). -/
theorem State.pack_getLsbD_five (brk : Bool) (s : State) : (s.pack brk).getLsbD 5 = true := by
  simp [State.pack]

/-- Bit 4 of the packed status is B, or forced to 1 (R38). -/
theorem State.pack_getLsbD_four (brk : Bool) (s : State) : (s.pack brk).getLsbD 4 = (s.b || brk) := by
  simp [State.pack]

/-! ### Pushes and pulls -/

/-- The stack byte a pull reads is the one at SP. -/
theorem slotAbove_zero (s : State) : slotAbove 0 s = 0x100 + s.sp.toNat := by
  simp [slotAbove]

/-- PLA (R122): the pull, and the byte pulled in A with its N and Z. -/
theorem handlePla_eq (ctx : Ctx) (s : State) :
    handlePla ctx s = { s with
      a := s.ramByte (slotAbove 0 s), n := (s.ramByte (slotAbove 0 s)).getLsbD 7, z := s.ramByte (slotAbove 0 s) == 0
      sp := s.sp + 1 } := by
  rw [handlePla, State.pull_eq, slotAbove_zero]
  rfl

/-- PLP (R123): the pull, and the byte pulled unpacked. -/
theorem handlePlp_eq (ctx : Ctx) (s : State) :
    handlePlp ctx s = { s.unpack (s.ramByte (slotAbove 0 s)) with sp := s.sp + 1 } := by
  rw [handlePlp, State.pull_eq, slotAbove_zero]
  rfl

/-- An Implied instruction whose handler takes the state past its one byte, base cycles charged, to `t` in any context. -/
theorem exec_of_implied_of_handlerOf {i : Instr} {m : Mnemonic} {s t : State} (hm : i.mnemonic = m)
    (ho : i.operand = .implied) (h : m ∉ undocumented ∧ m ≠ .NOP ∧ m ≠ .SBC)
    (ht : ∀ ctx, handlerOf m ctx
      { s with pc := s.pc + 1, cycles := s.cycles + (optable i.opcode).baseCycles } = t) :
    exec i s = .next t := by
  rw [exec_of_implied s hm ho h, ht]

/-- Settles O21: each instruction runs its handler past its one byte with its base cycles charged, and the handler is one
push or pull on the flags and the stack of the state given. -/
theorem stackInstructionsPushAndPullOneByte : Obligations.StackInstructionsPushAndPullOneByte := by
  intro s
  refine ⟨?pha, ?php, ?pla, ?plp, s.pack_getLsbD_five true, ?bit4, rfl, rfl, rfl, rfl⟩
  case pha => exact exec_of_implied_of_handlerOf rfl rfl (by decide) fun _ => State.push_eq _ _
  case php => exact exec_of_implied_of_handlerOf rfl rfl (by decide) fun _ => State.push_eq _ _
  case pla => exact exec_of_implied_of_handlerOf rfl rfl (by decide) fun ctx => handlePla_eq ctx _
  case plp => exact exec_of_implied_of_handlerOf rfl rfl (by decide) fun ctx => handlePlp_eq ctx _
  case bit4 => rw [State.pack_getLsbD_four, Bool.or_true]

end Sys2Proof.Machine
end

section
/-! PROOFS. The arithmetic and logic family (spec/43_arith_logic.md R127 to R137). -/

namespace Sys2Proof.Machine

/-! ### The state after the operand read -/

/-- Steps 4 to 7 of R80 and the operand read change no register that a handler here computes from, nor C, D or the
parameters. -/
theorem afterRead_keeps_inputs (i : Instr) (s : State) :
    (afterRead i s).a = s.a ∧ (afterRead i s).x = s.x ∧ (afterRead i s).y = s.y ∧ (afterRead i s).c = s.c
      ∧ (afterRead i s).d = s.d ∧ (afterRead i s).params = s.params := by
  simp [afterRead, ready]

/-! ### Logic, compare and bit test -/

/-- Settles O25: each form runs the handler of its mnemonic, and the A it combines is that of the state given; the ROM's
rows are evaluated. -/
theorem logicCombinesBitwise : Obligations.LogicCombinesBitwise := by
  refine ⟨fun i s r h => ?_, by decide, by decide, by decide⟩
  obtain ⟨ha, -⟩ := afterRead_keeps_inputs i s
  rw [← ha] at h
  rcases h with ⟨hm, rfl⟩ | ⟨hm, rfl⟩ | ⟨hm, rfl⟩
  all_goals exact exec_of_mnemonic s hm (by decide)

/-- Settles O26: each form runs the handler of its mnemonic on the register of the state given, and Z, the difference being
zero, is equality; the ROM's rows are evaluated. -/
theorem comparesSetFlagsOnly : Obligations.ComparesSetFlagsOnly := by
  refine ⟨fun i s r h => ?_, by decide, by decide, by decide⟩
  obtain ⟨ha, hx, hy, -⟩ := afterRead_keeps_inputs i s
  rw [← ha, ← hx, ← hy] at h
  dsimp only
  rw [← beq_eq_decide, ← byte_sub_beq_zero]
  rcases h with ⟨hm, rfl⟩ | ⟨hm, rfl⟩ | ⟨hm, rfl⟩
  all_goals exact exec_of_mnemonic s hm (by decide)

/-- Settles O27: both forms run the handler on the A of the state given; the ROM's rows are evaluated. -/
theorem bitTestsTheOperand : Obligations.BitTestsTheOperand := by
  refine ⟨fun i s hm => ?_, by decide⟩
  obtain ⟨ha, -⟩ := afterRead_keeps_inputs i s
  rw [← ha, ← beq_eq_decide]
  exact exec_of_mnemonic s hm (by decide)

/-! ### ADC and SBC -/

/-- The result of ADC or SBC is the same computed after the operand read as before. -/
theorem afterRead_keeps_results (i : Instr) (s : State) (m : Byte) :
    (afterRead i s).adcResult m = s.adcResult m ∧ (afterRead i s).sbcResult m = s.sbcResult m := by
  obtain ⟨ha, -, -, hc, hd, hp⟩ := afterRead_keeps_inputs i s
  simp [State.adcResult, State.sbcResult, State.decimal, ha, hc, hd, hp]

/-- ADC (R127): A, C, V, Z and N of the result computed from the state given, written after the operand read. -/
theorem exec_adc {i : Instr} (s : State) (hm : i.mnemonic = .ADC) :
    exec i s = .next ((afterRead i s).setArith (s.adcResult (operandByte i s))) := by
  rw [← (afterRead_keeps_results i s _).1]
  exact exec_of_mnemonic s hm (by decide)

/-- SBC (R128), in a form with a handler: likewise. -/
theorem exec_sbc {i : Instr} {s : State} (hm : i.mnemonic = .SBC) (h : handlerPresent i.opcode s.params = true) :
    exec i s = .next ((afterRead i s).setArith (s.sbcResult (operandByte i s))) := by
  rw [← (afterRead_keeps_results i s _).2, exec_of_handler h, hm]
  rfl

/-- The test of R129 and R130 for an invalid digit, as one condition on the four digits. -/
theorem bcdValid_and_bcdValid (a m : Byte) :
    (bcdValid a && bcdValid m)
      = decide (a.toNat / 16 ≤ 9 ∧ a.toNat % 16 ≤ 9 ∧ m.toNat / 16 ≤ 9 ∧ m.toNat % 16 ≤ 9) := by
  simp [bcdValid, Bool.and_assoc]

/-- Settles O22: the three cases are the branches of R127 and R129; the ROM's rows are evaluated. -/
theorem adcAddsWithCarry : Obligations.AdcAddsWithCarry := by
  refine ⟨fun i s hm => ?_, by decide⟩
  dsimp only
  rw [exec_adc s hm, State.adcResult, State.decimal, ← bcdValid_and_bcdValid]
  refine ⟨fun hb => ?binary, fun hb hv => ?decimal, fun hb hv => ?invalid⟩
  case binary => rw [hb, if_neg Bool.false_ne_true]; rfl
  case decimal => rw [hb, if_pos rfl, adcDecimal, if_pos hv]; rfl
  case invalid => rw [hb, if_pos rfl, adcDecimal, hv, if_neg Bool.false_ne_true]; rfl

/-- The complement as a number, which is how R128 subtracts by adding. -/
theorem byte_complement_toNat (m : Byte) : (m ^^^ 0xFF#8).toNat = 255 - m.toNat := by
  have h : m ^^^ 0xFF#8 = ~~~m := BitVec.xor_allOnes
  rw [h, BitVec.toNat_not]

/-- The two spellings of binary SBC in R128: the sum with the complement and the difference with the borrow. -/
theorem sbc_sum_eq_difference (a m : Byte) (c : Bool) :
    BitVec.ofNat 8 (a.toNat + (m ^^^ 0xFF#8).toNat + c.toNat) = a - m - BitVec.ofNat 8 (1 - c.toNat)
      ∧ (0xFF < a.toNat + (m ^^^ 0xFF#8).toNat + c.toNat ↔ m.toNat + (1 - c.toNat) ≤ a.toNat) := by
  have hm := m.isLt
  have hc := c.toNat_le
  rw [byte_complement_toNat]
  refine ⟨BitVec.eq_of_toNat_eq ?_, by omega⟩
  simp only [BitVec.toNat_ofNat, BitVec.toNat_sub]
  omega

/-- The decimal value of two valid digits is at most 99. -/
theorem bcdDecode_le {v : Byte} (h : bcdValid v = true) : bcdDecode v ≤ 99 := by
  simp only [bcdValid, Bool.and_eq_true, decide_eq_true_iff] at h
  unfold bcdDecode
  omega

/-- The decimal difference of R130 in the integers, and the same in the naturals with 100 lent: modulo 100, and its
sign. -/
theorem bcd_difference {p q : Nat} (c : Bool) (hq : q ≤ 99) :
    (((p : Int) - q - (1 - c.toNat : Int)) % 100).toNat = (100 + p - q - (1 - c.toNat)) % 100
      ∧ (0 ≤ (p : Int) - q - (1 - c.toNat : Int) ↔ q + (1 - c.toNat) ≤ p) := by
  have hc := c.toNat_le
  omega

/-- R130 on valid digits, computed in the naturals. -/
theorem sbcDecimal_of_valid {a m : Byte} (c : Bool) (h : (bcdValid a && bcdValid m) = true) :
    sbcDecimal a m c =
      let r := bcdEncode ((100 + bcdDecode a - bcdDecode m - (1 - c.toNat)) % 100)
      arithResult r (decide (bcdDecode m + (1 - c.toNat) ≤ bcdDecode a)) (subOverflow a m r) := by
  obtain ⟨hmod, hsign⟩ := bcd_difference (p := bcdDecode a) c (bcdDecode_le (Bool.and_eq_true_iff.mp h).2)
  rw [sbcDecimal, if_pos h]
  simp only [hmod, hsign]

/-- Settles O23: the three cases are the branches of R128 and R130, with the second spelling of R128 and the naturals of
the decimal difference by arithmetic; the ROM's rows are evaluated. -/
theorem sbcSubtractsWithBorrow : Obligations.SbcSubtractsWithBorrow := by
  refine ⟨fun i s hm hp => ?_, by decide⟩
  dsimp only
  rw [exec_sbc hm hp, State.sbcResult, State.decimal, ← bcdValid_and_bcdValid]
  refine ⟨fun hb => ⟨?binary, sbc_sum_eq_difference _ _ _⟩, fun hb hv => ?decimal, fun hb hv => ?invalid⟩
  case binary => rw [hb, if_neg Bool.false_ne_true]; rfl
  case decimal => rw [hb, if_pos rfl, sbcDecimal_of_valid s.c hv]; rfl
  case invalid => rw [hb, if_pos rfl, sbcDecimal, hv, if_neg Bool.false_ne_true]; rfl

end Sys2Proof.Machine
end

section
/-! PROOFS. The increment and decrement family (spec/44_inc_dec.md R140 to R145). -/

namespace Sys2Proof.Machine

/-! ### INC and DEC -/

/-- No instruction has the accumulator form where the rules list none for its mnemonic. -/
theorem operand_ne_accumulator {i : Instr} {m : Mnemonic} (hm : i.mnemonic = m) (h : .accumulator ∉ legalModes m) :
    i.operand ≠ .accumulator := by
  obtain ⟨-, -, -, hwf⟩ := Laws.Table.all i
  intro ho
  rw [Instr.WellFormed, hm, ho] at hwf
  exact h (List.contains_iff_mem.mp hwf)

/-- The write back of a form that is not the accumulator's is one write at its effective address (R98). -/
theorem writeback_contextOf {i : Instr} (h : i.operand ≠ .accumulator) (r : Byte) (s t : State) :
    writeback (contextOf i.opcode i.operand s) r t = t.writeByte (eaOf i s) r :=
  writeback_memory (ctx := contextOf i.opcode i.operand s) h r t

/-- INC (R140): the operand byte plus 1 written where it was read. -/
theorem exec_inc {i : Instr} (s : State) (hm : i.mnemonic = .INC) :
    exec i s = .next (((afterRead i s).writeByte (eaOf i s) (operandByte i s + 1)).setZN (operandByte i s + 1)) := by
  rw [← writeback_contextOf (operand_ne_accumulator hm (by decide))]
  exact exec_of_mnemonic s hm (by decide)

/-- DEC (R141): the operand byte minus 1 written where it was read. -/
theorem exec_dec {i : Instr} (s : State) (hm : i.mnemonic = .DEC) :
    exec i s = .next (((afterRead i s).writeByte (eaOf i s) (operandByte i s - 1)).setZN (operandByte i s - 1)) := by
  rw [← writeback_contextOf (operand_ne_accumulator hm (by decide))]
  exact exec_of_mnemonic s hm (by decide)

/-- A byte whose value is one more modulo 256 is the sum. -/
theorem byte_eq_add_one {r m : Byte} (h : r.toNat = m.toNat.succ % 256) : r = m + 1 :=
  BitVec.eq_of_toNat_eq (h.trans (BitVec.toNat_add m 1).symm)

/-- A byte whose value is 255 more, that is one less, modulo 256 is the difference. -/
theorem byte_eq_sub_one {r m : Byte} (h : r.toNat = (m.toNat + 255) % 256) : r = m - 1 := by
  bv_omega

/-- Settles O28: the byte written is the sum or difference of R140 and R141, given as a number; the ROM's rows are
evaluated. -/
theorem incDecWriteBackOnce : Obligations.IncDecWriteBackOnce := by
  refine ⟨fun i s r h => ?_, by decide, by decide⟩
  rcases h with ⟨hm, hr⟩ | ⟨hm, hr⟩
  · rw [byte_eq_add_one hr]
    exact exec_inc s hm
  · rw [byte_eq_sub_one hr]
    exact exec_dec s hm

/-! ### The index registers -/

/-- Settles O29: each handler counts its register and tests the result, run past its one byte with its two base cycles
charged. -/
theorem indexRegistersCount : Obligations.IndexRegistersCount := by
  intro s
  refine ⟨?inx, ?iny, ?dex, ?dey, rfl, rfl, rfl, rfl⟩
  all_goals exact exec_of_implied s rfl rfl (by decide)

end Sys2Proof.Machine
end

section
/-! PROOFS. The shift and rotate family (spec/45_shift_rotate.md R150 to R153). -/

namespace Sys2Proof.Machine

/-! ### The results as numbers -/

/-- A flag placed at a bit of a byte has that bit's weight. -/
theorem flagBit_toNat (f : Bool) {k : Nat} (hk : k < 8) : (flagBit f k).toNat = 2 ^ k * f.toNat := by
  cases f
  · simp [flagBit]
  · exact (BitVec.toNat_twoPow_of_lt hk).trans (Nat.mul_one _).symm

/-- The left shift of R150 and R152 doubles the byte modulo 256. -/
theorem byte_shiftLeft_one_toNat (v : Byte) : (v <<< 1).toNat = 2 * v.toNat % 256 := by
  rw [BitVec.toNat_shiftLeft, Nat.shiftLeft_eq, Nat.mul_comm]

/-- The right shift of R151 and R153 halves the byte. -/
theorem byte_shiftRight_one_toNat (v : Byte) : (v >>> 1).toNat = v.toNat / 2 := by
  rw [BitVec.toNat_ushiftRight, Nat.shiftRight_eq_div_pow]

/-- ROL (R152): the old carry enters bit 0, which the shift left 0, so or-ing it in adds it. -/
theorem byte_rotateLeft_toNat (v : Byte) (c : Bool) :
    ((v <<< 1) ||| flagBit c 0).toNat = (2 * v.toNat + c.toNat) % 256 := by
  have hc := c.toNat_le
  have hshift : 2 * v.toNat % 256 = 2 ^ 1 * (v.toNat % 128) := by omega
  rw [BitVec.toNat_or, flagBit_toNat c (by decide), byte_shiftLeft_one_toNat, hshift,
    ← Nat.two_pow_add_eq_or_of_lt (by omega)]
  omega

/-- ROR (R153): the old carry enters bit 7, which the shift left 0, so or-ing it in adds its weight. -/
theorem byte_rotateRight_toNat (v : Byte) (c : Bool) :
    ((v >>> 1) ||| flagBit c 7).toNat = v.toNat / 2 + 128 * c.toNat := by
  have hv := v.isLt
  rw [BitVec.toNat_or, flagBit_toNat c (by decide), byte_shiftRight_one_toNat, Nat.or_comm,
    ← Nat.two_pow_add_eq_or_of_lt (by omega), Nat.add_comm]

/-! ### The shared shift operation -/

/-- A bus write neither reads nor changes C. -/
theorem State.writeByte_setC (a : Addr) (w : Byte) (f : Bool) (s : State) :
    (s.setC f).writeByte a w = (s.writeByte a w).setC f := by
  rw [State.writeByte_def, State.writeByte_def]
  cases route a <;> rfl

/-- In the accumulator form reading the operand is no transfer (R98). -/
theorem afterRead_of_accumulator {i : Instr} (h : i.operand = .accumulator) (s : State) :
    afterRead i s = ready i s := by
  rw [afterRead, h]
  rfl

/-- The result and the bit shifted out of each of the four operations, from the operand and the old carry; no other
mnemonic shifts. -/
def shiftOf : Mnemonic → Byte → Bool → Byte × Bool
  | .ASL, v, _ => (v <<< 1, v.getLsbD 7)
  | .LSR, v, _ => (v >>> 1, v.getLsbD 0)
  | .ROL, v, c => ((v <<< 1) ||| flagBit c 0, v.getLsbD 7)
  | .ROR, v, c => ((v >>> 1) ||| flagBit c 7, v.getLsbD 0)
  | _, v, _ => (v, false)

/-- The handlers of the four mnemonics are these operations on one operand. -/
theorem handlerOf_of_isShift {m : Mnemonic} (h : isShift m = true) : handlerOf m = shiftOp (shiftOf m) := by
  cases m
  case ASL | LSR | ROL | ROR => rfl
  all_goals exact absurd h (by decide)

/-- The four operations in the terms of R150 to R153: the result as a number and the bit shifted out. -/
theorem shiftOf_eq_of_toNat {m : Mnemonic} {v r : Byte} {c out : Bool}
    (h : m = .ASL ∧ r.toNat = 2 * v.toNat % 256 ∧ out = v.getLsbD 7
      ∨ m = .LSR ∧ r.toNat = v.toNat / 2 ∧ out = v.getLsbD 0
      ∨ m = .ROL ∧ r.toNat = (2 * v.toNat + c.toNat) % 256 ∧ out = v.getLsbD 7
      ∨ m = .ROR ∧ r.toNat = v.toNat / 2 + 128 * c.toNat ∧ out = v.getLsbD 0) :
    isShift m = true ∧ shiftOf m v c = (r, out) := by
  rcases h with ⟨rfl, hr, rfl⟩ | ⟨rfl, hr, rfl⟩ | ⟨rfl, hr, rfl⟩ | ⟨rfl, hr, rfl⟩
  all_goals refine ⟨rfl, Prod.ext (BitVec.eq_of_toNat_eq (Eq.trans ?_ hr.symm)) rfl⟩
  · exact byte_shiftLeft_one_toNat v
  · exact byte_shiftRight_one_toNat v
  · exact byte_rotateLeft_toNat v c
  · exact byte_rotateRight_toNat v c

/-- Every form of the four mnemonics has a handler (R77). -/
theorem documented_of_isShift {m : Mnemonic} (h : isShift m = true) : m ∉ undocumented ∧ m ≠ .NOP ∧ m ≠ .SBC := by
  simp only [isShift, Bool.or_eq_true, beq_iff_eq] at h
  rcases h with ((rfl | rfl) | rfl) | rfl
  all_goals decide

/-- A shift by `f` from the state handed to the handler, whose carry is that of the state given: the operand read once,
the result written back, C the bit shifted out, N and Z from the result. -/
theorem shiftOp_contextOf (f : Byte → Bool → Byte × Bool) (i : Instr) (s : State) :
    shiftOp f (contextOf i.opcode i.operand s) (readyState i.opcode i.operand s) =
      (writeback (contextOf i.opcode i.operand s) (f (operandByte i s) s.c).1
        ((afterRead i s).setC (f (operandByte i s) s.c).2)).setZN (f (operandByte i s) s.c).1 := by
  obtain ⟨-, -, -, hc, -⟩ := afterRead_keeps_inputs i s
  rw [← hc]
  rfl

/-- Any form of a shift whose operation on the operand and the carry of the state given answers `r` and `out`. -/
theorem exec_of_isShift {i : Instr} {s : State} {r : Byte} {out : Bool} (hi : isShift i.mnemonic = true)
    (hf : shiftOf i.mnemonic (operandByte i s) s.c = (r, out)) :
    exec i s = .next ((writeback (contextOf i.opcode i.operand s) r ((afterRead i s).setC out)).setZN r) := by
  rw [exec_of_mnemonic s rfl (documented_of_isShift hi), handlerOf_of_isShift hi, shiftOp_contextOf, hf]

/-- Settles O30: the operation on the operand gives the byte and the bit named, and the write back is to A or one write
at the effective address; the ROM's rows are evaluated. -/
theorem shiftsMoveOneBitThroughCarry : Obligations.ShiftsMoveOneBitThroughCarry := by
  refine ⟨fun i s r out h => ?_, by decide, by decide, by decide, by decide⟩
  obtain ⟨hi, hf⟩ := shiftOf_eq_of_toNat h
  rw [exec_of_isShift hi hf]
  refine ⟨fun ho => ?accumulator, fun ho => ?memory⟩
  case accumulator =>
    rw [writeback_accumulator ho, afterRead_of_accumulator ho]
    rfl
  case memory =>
    rw [writeback_contextOf ho, State.writeByte_setC]
    rfl

end Sys2Proof.Machine
end

section
/-! PROOFS. The control transfer family (spec/46_control.md R160 to R176). -/

namespace Sys2Proof.Machine

/-! ### Returns -/

/-- RTS (R162): the word pulled, plus 1, in PC. -/
theorem handleRts_eq (ctx : Ctx) (s : State) :
    handleRts ctx s = { s with
      sp := s.sp + 2, pc := mkWord (s.ramByte (slotAbove 1 s)) (s.ramByte (slotAbove 0 s)) + 1 } := by
  rw [handleRts, State.pull16_eq, slotAbove_zero]
  rfl

/-- RTI (R163): the flags but for B and PC pulled, PC with no increment. -/
theorem handleRti_eq (ctx : Ctx) (s : State) :
    handleRti ctx s = { s.unpack (s.ramByte (slotAbove 0 s)) with
      sp := s.sp + 3, pc := mkWord (s.ramByte (slotAbove 2 s)) (s.ramByte (slotAbove 1 s)) } := by
  rw [handleRti, State.returnFromTrap_eq, slotAbove_zero]
  rfl

/-- Settles O33: RTI runs its handler past its one byte, and neither that advance nor the charge touches what it pulls. -/
theorem rtiRestoresFlagsAndPc : Obligations.RtiRestoresFlagsAndPc :=
  fun _ => ⟨exec_of_implied_of_handlerOf rfl rfl (by decide) fun ctx => handleRti_eq ctx _, rfl⟩

/-! ### JSR -/

/-- JSR (R161): the word pushed is the one before PC_after. -/
theorem handleJsr_eq (ctx : Ctx) (s : State) :
    handleJsr ctx s = { s with
      sp := s.sp - 2, pc := ctx.ea
      ram := (s.ram.set (slotBelow 1 s) (hiByte (ctx.pc - 1))).set (slotBelow 2 s) (loByte (ctx.pc - 1)) } := by
  rw [handleJsr, State.push16_eq]
  rfl

/-- Of a three-byte instruction, the address before PC_after is that of its last byte. -/
theorem contextOf_pc_sub_one {op : Byte} (h : (optable op).length = 3) (o : Operand) (s : State) :
    (contextOf op o s).pc - 1 = s.pc + 2 := by
  rw [contextOf, h]
  bv_omega

/-- JSR (R161), whose target is its operand word, from the opcode address. -/
theorem exec_jsr (s : State) (w : Addr) :
    exec (.jsr w) s = .next { s with
      sp := s.sp - 2, pc := w, cycles := s.cycles + 6
      ram := (s.ram.set (slotBelow 1 s) (hiByte (s.pc + 2))).set (slotBelow 2 s) (loByte (s.pc + 2)) } := by
  change runHandler 0x20 (.absolute w) handleJsr s = _
  rw [runHandler, handleJsr_eq, contextOf_pc_sub_one rfl]
  rfl

/-- Settles O32: JSR's push of the address of its last byte and jump, and RTS's handler run past its one byte, where it
finds SP and the stack as they were. -/
theorem jsrPushesAndRtsReturns : Obligations.JsrPushesAndRtsReturns := fun s w =>
  ⟨exec_jsr s w, exec_of_implied_of_handlerOf rfl rfl (by decide) fun ctx => handleRts_eq ctx _, rfl, rfl⟩

/-! ### BRK -/

/-- BRK (R164): trap entry through the IRQ vector, which is the mapper's, saving the word after PC_after. -/
theorem handleBrk_eq (ctx : Ctx) (s : State) :
    handleBrk ctx s = { s with
      sp := s.sp - 3, i := true, pc := vectorWord irqVector s
      ram := ((s.ram.set (slotBelow 1 s) (hiByte (ctx.pc + 1))).set (slotBelow 2 s) (loByte (ctx.pc + 1))).set
        (slotBelow 3 s) (s.pack true) } :=
  State.enterTrap_eq (by decide) (by decide) (ctx.pc + 1) true s

/-- Of a one-byte instruction, the address after PC_after is two past its own. -/
theorem contextOf_pc_add_one {op : Byte} (h : (optable op).length = 1) (o : Operand) (s : State) :
    (contextOf op o s).pc + 1 = s.pc + 2 := by
  rw [contextOf, h]
  bv_omega

/-- Settles O34: BRK's trap entry on the context of a one-byte form, and the two bits of the byte it pushes that R164
forces. -/
theorem brkEntersThroughTheIrqVector : Obligations.BrkEntersThroughTheIrqVector := by
  intro s
  refine ⟨?entry, ?bit4, s.pack_getLsbD_five true, rfl⟩
  case entry =>
    rw [exec_of_implied s (m := .BRK) rfl rfl (by decide), handlerOf, handleBrk_eq, contextOf_pc_add_one rfl]
    rfl
  case bit4 => rw [State.pack_getLsbD_four, Bool.or_true]

/-! ### Branches -/

/-- Every Relative slot is documented, two bytes long and two cycles before its branch (R70, R77, R94). -/
theorem optable_relative (op : Byte) (h : (optable op).mode = .relative) :
    (optable op).slot = .documented ∧ (optable op).length = 2 ∧ (optable op).baseCycles = 2 := by
  revert op
  decide

/-- A Relative instruction runs its handler past its two bytes, two cycles charged, the effective address being the
signed offset from there (R89). -/
theorem exec_of_relative {i : Instr} {off : Byte} (s : State) (ho : i.operand = .relative off) :
    exec i s = .next (handlerOf i.mnemonic
      { ea := s.pc + 2 + BitVec.ofInt 16 off.toInt, pc := s.pc + 2, operand := .relative off }
      { s with pc := s.pc + 2, cycles := s.cycles + 2 }) := by
  obtain ⟨-, hmode, -⟩ := Laws.Table.all i
  rw [ho] at hmode
  obtain ⟨hslot, hlength, hcycles⟩ := optable_relative i.opcode hmode
  have hpresent : handlerPresent i.opcode s.params = true := by rw [handlerPresent, hslot]
  rw [exec_of_handler hpresent, contextOf, readyState_eq, chargeOf, ho, hlength, hcycles, ← sext16_eq]
  rfl

/-- The cycles of a taken branch (R94, R166): two, one for being taken, and one more for leaving the page of the
instruction after it. -/
theorem taken_branch_cycles (p target : Addr) :
    2 + (1 + if pagesDiffer p target then 1 else 0) = if hiByte p = hiByte target then 3 else 4 := by
  rw [pagesDiffer_eq]
  by_cases h : hiByte p = hiByte target <;> simp [h]

/-- A Relative instruction whose handler is `branch` on a condition of the flags, in any context. -/
theorem exec_of_branch {i : Instr} {s : State} {off : Byte} {taken : Bool} (ho : i.operand = .relative off)
    (hb : ∀ ctx, handlerOf i.mnemonic ctx { s with pc := s.pc + 2, cycles := s.cycles + 2 }
      = branch taken ctx { s with pc := s.pc + 2, cycles := s.cycles + 2 }) :
    let target := s.pc + 2 + BitVec.ofInt 16 off.toInt
    (taken = false → exec i s = .next { s with pc := s.pc + 2, cycles := s.cycles + 2 })
    ∧ (taken = true → exec i s = .next { s with
        pc := target, cycles := s.cycles + if hiByte (s.pc + 2) = hiByte target then 3 else 4 }) := by
  rw [exec_of_relative s ho, hb, branch_eq]
  refine ⟨fun ht => ?fallThrough, fun ht => ?jump⟩
  case fallThrough =>
    rw [ht]
    rfl
  case jump =>
    rw [ht, ← taken_branch_cycles, ← Nat.add_assoc]
    rfl

/-- Settles O35: each mnemonic's handler is `branch` on its flag, which the advance and the charge leave as it was. -/
theorem branchesTestOneFlag : Obligations.BranchesTestOneFlag := by
  refine ⟨fun i s off taken h => ?_, fun off => ⟨rfl, rfl, rfl, rfl, rfl, rfl, rfl, rfl⟩⟩
  rcases h with ⟨rfl, rfl⟩ | ⟨rfl, rfl⟩ | ⟨rfl, rfl⟩ | ⟨rfl, rfl⟩ | ⟨rfl, rfl⟩ | ⟨rfl, rfl⟩ | ⟨rfl, rfl⟩ | ⟨rfl, rfl⟩
  all_goals exact exec_of_branch rfl fun _ => rfl

/-! ### JMP -/

/-- JMP (R160) in either form: PC becomes the effective address, and PERIPH sees what resolving it read. -/
theorem runHandler_handleJmp (op : Byte) (o : Operand) (s : State) :
    runHandler op o handleJmp s = .next { s with
      pc := (resolve o s.pc s).ea, cycles := s.cycles + chargeOf op (resolve o s.pc s).crossed
      periph := (resolve o s.pc s).state.periph } := by
  rw [runHandler, readyState_eq]
  rfl

/-- Settles O31: the effective address is the operand word, or the word read through it with the page wrap, whose two
reads are all that PERIPH sees. -/
theorem jmpLoadsTheTarget : Obligations.JmpLoadsTheTarget := fun s w =>
  ⟨runHandler_handleJmp 0x4C (.absolute w) s, runHandler_handleJmp 0x6C (.indirect w) s, rfl, rfl⟩

end Sys2Proof.Machine
end

section
/-! PROOFS. The flag and NOP family (spec/47_flags_nop.md R180 to R187). -/

namespace Sys2Proof.Machine

/-! ### NOP -/

/-- No instruction is in a mode that the rules do not list for its mnemonic. -/
theorem operand_mode_ne {i : Instr} {m : Mnemonic} {mode : Mode} (hm : i.mnemonic = m) (h : mode ∉ legalModes m) :
    i.operand.mode ≠ mode := by
  obtain ⟨-, -, -, hwf⟩ := Laws.Table.all i
  rintro rfl
  rw [Instr.WellFormed, hm] at hwf
  exact h (List.contains_iff_mem.mp hwf)

/-- Outside Indirect mode, resolution reads no pointer that PERIPH could see, so the state handed to the handler differs
from the one given in PC and cycles only. -/
theorem readyState_of_not_indirect {i : Instr} (h : i.operand.mode ≠ .indirect) (s : State) :
    readyState i.opcode i.operand s =
      { s with pc := pcAfter i s, cycles := s.cycles + chargeOf i.opcode (resolve i.operand s.pc s).crossed } := by
  rw [readyState_eq, resolve_state_of_not_indirect h]
  rfl

/-- NOP (R187), in a form with a handler: the state after the advance and the charge is the answer. -/
theorem exec_nop {i : Instr} {s : State} (hm : i.mnemonic = .NOP) (h : handlerPresent i.opcode s.params = true) :
    exec i s = .next (readyState i.opcode i.operand s) := by
  rw [exec_of_handler h, hm]
  rfl

/-- Settles O37: the handler changes nothing, and NOP has no Indirect form, whose pointer reads PERIPH could see; the ROM's
rows are evaluated. -/
theorem nopOnlyAdvances : Obligations.NopOnlyAdvances := by
  refine ⟨fun i s hm hp => ?_, by decide⟩
  rw [exec_nop hm hp, readyState_of_not_indirect (operand_mode_ne hm (by decide)), chargeOf, ← Nat.add_assoc]

/-! ### The flag instructions -/

/-- Settles O36: each handler writes its one flag, run past its one byte with its two base cycles charged. -/
theorem flagInstructionsWriteOneFlag : Obligations.FlagInstructionsWriteOneFlag := by
  intro s
  refine ⟨?clc, ?cld, ?cli, ?clv, ?sec, ?sed, ?sei, rfl, rfl, rfl, rfl, rfl, rfl, rfl⟩
  all_goals exact exec_of_implied s rfl rfl (by decide)

end Sys2Proof.Machine
end

section
/-! PROOFS. The unimplemented family (spec/48_unimplemented.md R300 to R321). -/

namespace Sys2Proof.Machine

/-! ### The slots without a handler -/

/-- The undocumented mnemonics are those of the slots that no parameter gives a handler (R77). -/
theorem optable_undocumented_iff (op : Byte) : (optable op).mnemonic ∈ undocumented ↔ (optable op).slot = .absent := by
  revert op
  decide

/-- Under UNDOC_ALIASES only an absent slot lacks a handler (R320). -/
theorem handlerPresent_eq_false_iff_absent {params : Params} (h : params.undocAliases = true) (op : Byte) :
    handlerPresent op params = false ↔ (optable op).slot = .absent := by
  rw [handlerPresent]
  cases (optable op).slot <;> simp [h]

/-- A slot in Indirect mode is documented: JMP's alone (R77). -/
theorem optable_indirect (op : Byte) (h : (optable op).mode = .indirect) : (optable op).slot = .documented := by
  revert op
  decide

/-- No instruction without a handler is in the one mode whose pointer reads PERIPH could see (R89). -/
theorem operand_mode_ne_indirect_of_no_handler {i : Instr} {params : Params} (h : handlerPresent i.opcode params = false) :
    i.operand.mode ≠ .indirect := by
  obtain ⟨-, hmode, -⟩ := Laws.Table.all i
  intro ho
  rw [handlerPresent, optable_indirect i.opcode (hmode.trans ho)] at h
  exact Bool.noConfusion h

/-! ### IllegalOpcode -/

/-- IllegalOpcode (R300): PC and cycles by the table and the record, nothing else. -/
theorem exec_illegal {i : Instr} {s : State} (h : handlerPresent i.opcode s.params = false) :
    exec i s = .next { s with
      pc := pcAfter i s, cycles := s.cycles + chargeOf i.opcode (resolve i.operand s.pc s).crossed
      faults := s.faults ++ [.illegalOpcode i.opcode s.pc] } := by
  rw [exec_of_no_handler h, readyState_of_not_indirect (operand_mode_ne_indirect_of_no_handler h)]
  rfl

/-- What a step signals is the record it appended, and its count is the cycles it added. -/
theorem stepOutput_of_append {s t : State} {k : Nat} {r : FaultRecord} (hc : t.cycles = s.cycles + k)
    (hf : t.faults = s.faults ++ [r]) : stepOutput s t = (k, some r) := by
  rw [stepOutput, hc, hf, Nat.add_sub_cancel_left, List.getElem?_concat_length]

/-- Settles O38: the arm without a handler and what is read off its two states; the slots of the undocumented mnemonics
are those absent, so that the rest lack a handler as aliases only. -/
theorem opcodesWithoutHandlerRecordIllegal : Obligations.OpcodesWithoutHandlerRecordIllegal := by
  intro i s
  refine ⟨fun h => ⟨exec_illegal h, stepOutput_of_append rfl rfl⟩, ?undocumented, fun h hm => ?aliased⟩
  case undocumented =>
    obtain ⟨hmnemonic, -⟩ := Laws.Table.all i
    rw [handlerPresent_eq_false_iff_absent rfl, ← optable_undocumented_iff, hmnemonic]
  case aliased =>
    rcases handlerPresent_cases i s.params with hp | hu | ⟨-, halias⟩
    · exact absurd (h.symm.trans hp) Bool.false_ne_true
    · rcases hm with hm | hm <;> exact absurd (hm ▸ hu) (by decide)
    · exact halias

end Sys2Proof.Machine
end

section
/-! PROOFS. The exceptions family (spec/60_exceptions.md R205 to R207). -/

namespace Sys2Proof.Machine

/-! ### Mailbox service, by request -/

/-- The entry IRQ and NMI make from the state whose mailbox is being serviced (R205, R206). -/
def State.interruptEntry (vector : Addr) (s : State) : State :=
  ((s.setMailbox none).enterTrap s.pc false vector).addCycles s.params.interruptCycles

/-- An entry through a vector in the mapper window: three pushes below SP, I set, PC from the vector and the charge. -/
theorem State.interruptEntry_eq {vector : Addr} (h : route vector = .mapper) (h' : route (vector + 1) = .mapper)
    (s : State) :
    s.interruptEntry vector = { s with
      mailbox := none, sp := s.sp - 3, i := true, pc := vectorWord vector s
      cycles := s.cycles + s.params.interruptCycles
      ram := ((s.ram.set (slotBelow 1 s) (hiByte s.pc)).set (slotBelow 2 s) (loByte s.pc)).set (slotBelow 3 s)
        (s.pack false) } := by
  rw [State.interruptEntry, State.enterTrap_eq h h']
  rfl

/-- With I = 0 an IRQ is an entry through its vector (R205). -/
theorem State.serviceMailbox_of_irq {s : State} (h : s.mailbox = some .irq) (hi : s.i = false) :
    s.serviceMailbox = s.interruptEntry irqVector := by
  rw [State.serviceMailbox, h]
  exact if_neg (ne_true_of_eq_false hi)

/-- With I = 1 an IRQ is taken from the mailbox and dropped (R205). -/
theorem State.serviceMailbox_of_masked_irq {s : State} (h : s.mailbox = some .irq) (hi : s.i = true) :
    s.serviceMailbox = s.setMailbox none := by
  rw [State.serviceMailbox, h]
  exact if_pos hi

/-- An NMI is an entry through its vector, whatever I is (R206). -/
theorem State.serviceMailbox_of_nmi {s : State} (h : s.mailbox = some .nmi) :
    s.serviceMailbox = s.interruptEntry nmiVector := by
  rw [State.serviceMailbox, h]
  rfl

/-- A Reset request is the word at its vector, which is the mapper's, in PC (R207). -/
theorem State.serviceMailbox_of_reset {s : State} (h : s.mailbox = some .reset) :
    s.serviceMailbox = { s with mailbox := none, pc := vectorWord resetVector s } := by
  rw [State.serviceMailbox, h, State.service, State.serviceReset, State.loadPc_eq (by decide) (by decide),
    State.peek_def, State.peek_def]
  rfl

/-- A step that is neither stuck nor stalled runs the instruction at PC of the state its mailbox service answers. -/
theorem step_of_serviceMailbox {s e : State} (h : s.stuckAt = none) (h0 : s.stall = 0) (he : s.serviceMailbox = e) :
    step s = exec e.fetchInstr e.fetched := by
  rw [step_eq h h0, he]

/-! ### The step that services a request -/

/-- Settles O49: what service makes of each request, and the step from there; both vectors are the mapper's. -/
theorem interruptsEnterThroughTheirVectors : Obligations.InterruptsEnterThroughTheirVectors := by
  intro s h h0
  refine ⟨fun hm hi => ?irq, fun hm hi => ?masked, fun hm => ?nmi⟩
  case irq =>
    exact step_of_serviceMailbox h h0
      ((State.serviceMailbox_of_irq hm hi).trans (State.interruptEntry_eq (by decide) (by decide) s))
  case masked => exact step_of_serviceMailbox h h0 (State.serviceMailbox_of_masked_irq hm hi)
  case nmi =>
    exact step_of_serviceMailbox h h0
      ((State.serviceMailbox_of_nmi hm).trans (State.interruptEntry_eq (by decide) (by decide) s))

/-- Settles O50: service of a Reset loads PC, and the step runs on from there. -/
theorem resetChangesPcOnly : Obligations.ResetChangesPcOnly :=
  fun _ h h0 hm => step_of_serviceMailbox h h0 (State.serviceMailbox_of_reset hm)

end Sys2Proof.Machine
end

section
/-! PROOFS. The encoding (spec/30_encoding.md): the decoder and the encoder undo each other (R71 to R73), which strings are
rejected (R72), and the classes of slots (R77). -/

namespace Sys2Proof

/-- Settles O1: an instruction's bytes are as many as its entry says, and they give it back whatever follows. -/
theorem decodeOfEncodeIsTheInstruction : Obligations.DecodeOfEncodeIsTheInstruction := by
  intro i rest
  have hlen : ¬(i.operand.bytes ++ rest).length < (optable i.opcode).length - 1 := by
    rw [List.length_append, bytes_length]
    omega
  rw [encode, List.cons_append, decode, if_neg hlen, decodeOp_bytes, ← bytes_length, List.drop_left]

/-- What a byte string that decodes is: an opcode, at least its operand bytes, and the rest. -/
theorem decode_eq_ok {bytes rest : List Byte} {i : Instr} (h : decode bytes = .ok (i, rest)) :
    ∃ op tail, bytes = op :: tail ∧ (optable op).length - 1 ≤ tail.length
      ∧ i = decodeOp op (tail.getD 0 0) (tail.getD 1 0) ∧ rest = tail.drop ((optable op).length - 1) := by
  cases bytes with
  | nil => simp [decode] at h
  | cons op tail =>
    simp only [decode] at h
    split at h
    · cases h
    · cases h
      exact ⟨op, tail, rfl, by omega, rfl, rfl⟩

/-- The two bytes the decoder looks at are the first ones of the string, as far as it has them. -/
theorem take_getD_pair {tail : List Byte} {k : Nat} (hk : k ≤ 2) (h : k ≤ tail.length) :
    [tail.getD 0 0, tail.getD 1 0].take k = tail.take k := by
  match tail, k with
  | _, 0 => rfl
  | b :: _, 1 => rfl
  | b :: c :: _, 2 => rfl

/-- Settles O2: the operand bytes of the instruction decoded are those taken off the front of the string. -/
theorem encodeOfDecodeIsTheBytes : Obligations.EncodeOfDecodeIsTheBytes := by
  intro bytes rest i h
  obtain ⟨op, tail, rfl, hlen, rfl, rfl⟩ := decode_eq_ok h
  have htwo : (optable op).length - 1 ≤ 2 := by
    have := (optable_length op).2
    omega
  rw [encode, opcode_decodeOp, bytes_decodeOp, take_getD_pair htwo hlen, List.cons_append, List.take_append_drop]

/-- Settles O3: the two rejections are the two branches of the decoder. -/
theorem decodeRejectsExactlyShortStrings : Obligations.DecodeRejectsExactlyShortStrings := by
  intro bytes
  cases bytes with
  | nil => simp [decode]
  | cons op tail =>
    have hpos := (optable_length op).1
    simp only [decode, List.headD_cons, List.length_cons]
    split
    · simp only [Except.error.injEq, exists_eq', true_iff]
      omega
    · simp only [reduceCtorEq, exists_false, false_or, false_iff]
      omega

/-- Settles O4: the sixteen words are decoded by evaluation. -/
theorem wordsOfTheSpecDecode : Obligations.WordsOfTheSpecDecode := by
  unfold Obligations.WordsOfTheSpecDecode
  decide

/-- Settles O5: the slots of the 256 entries, by evaluation. -/
theorem slotClassesAreThoseListed : Obligations.SlotClassesAreThoseListed := by
  refine ⟨by decide, by decide, by decide, by decide, rfl⟩

end Sys2Proof
end

section
/-! PROOFS. The bus and the stack (spec/20_memory.md): routing (R47), transfers outside RAM (R50 to R55), word reads
(R56, R57, R60), the word stack (R64, R65); and the packed status byte (spec/10_state.md R38). -/

namespace Sys2Proof.Machine

/-! ### Routing and transfers outside RAM -/

/-- Every address has its target and lies in that target's range (R47). -/
theorem route_cases (a : Addr) :
    route a = .ram ∧ a.toNat < 0x2000
      ∨ route a = .video ∧ 0x2000 ≤ a.toNat ∧ a.toNat < 0x4000
      ∨ route a = .audio ∧ 0x4000 ≤ a.toNat ∧ a.toNat < 0x4018
      ∨ route a = .unmapped ∧ 0x4018 ≤ a.toNat ∧ a.toNat < 0x6000
      ∨ route a = .mapper ∧ 0x6000 ≤ a.toNat := by
  unfold route
  repeat' split
  all_goals simp only [reduceCtorEq, false_and, true_and, false_or, or_false]
  all_goals omega

/-- Settles O6: the five ranges are disjoint, so the target decides the range and the range the target. -/
theorem routingFollowsTheTable : Obligations.RoutingFollowsTheTable := by
  intro a
  rcases route_cases a with ⟨h, hr⟩ | ⟨h, hr⟩ | ⟨h, hr⟩ | ⟨h, hr⟩ | ⟨h, hr⟩
  all_goals simp only [h, reduceCtorEq, false_iff, true_iff]
  all_goals omega

/-- What is neither RAM nor the mapper is the range of the peripheral windows and the unmapped gap (R47). -/
theorem isMemory_eq_false_iff (a : Addr) : isMemory a = false ↔ 0x2000 ≤ a.toNat ∧ a.toNat < 0x6000 := by
  rw [← Bool.not_eq_true, isMemory_iff, route_ram_iff, route_mapper_iff]
  omega

/-- A read outside RAM and the mapper answers a free value and is seen by PERIPH (R50 to R53). -/
theorem State.readByte_of_periph {a : Addr} (h : isMemory a = false) (s : State) :
    s.readByte a = (Config.periphRead s.periph a, { s with periph := .read a :: s.periph }) := by
  rw [State.readByte, State.peek_def, State.touch_def]
  unfold isMemory at h
  split <;> simp_all

/-- A mapper read answers the mapper's byte and changes nothing (R55). -/
theorem State.readByte_of_mapper {a : Addr} (h : route a = .mapper) (s : State) :
    s.readByte a = (s.mapper.read a, s) := by
  simp [State.readByte, State.peek_def, State.touch_def, h]

/-- Settles O8: the rule of each transfer in its range. -/
theorem transfersOutsideRamReachTheirOwner : Obligations.TransfersOutsideRamReachTheirOwner := by
  refine fun s a w => ⟨fun hlow hhigh => ?periph, fun hlow => ?mapper⟩
  case periph =>
    have h : isMemory a = false := (isMemory_eq_false_iff a).mpr ⟨hlow, hhigh⟩
    exact ⟨State.writeByte_of_periph h w s, State.readByte_of_periph h s⟩
  case mapper =>
    have h : route a = .mapper := (route_mapper_iff a).mpr hlow
    exact ⟨State.writeByte_of_mapper h w s, State.readByte_of_mapper h s⟩

/-! ### Word reads -/

/-- The low byte of an address as the mask of R57 takes it. -/
theorem loByte_ne_of_mask_ne {a : Addr} (h : a &&& 0x00FF#16 ≠ 0x00FF#16) : loByte a ≠ 0xFF := by
  intro hlow
  have hmod : a.toNat % 2 ^ 8 = 255 := by
    simpa [hlow] using (loByte_toNat a).symm
  refine h (BitVec.eq_of_toNat_eq ?_)
  rw [BitVec.toNat_and]
  exact (Nat.and_two_pow_sub_one_eq_mod a.toNat 8).trans hmod

/-- Settles O9: both reads are the same two transfers, of `a` and of its successor in the word or in the page. -/
theorem wordReadsAreLittleEndianAndWrap : Obligations.WordReadsAreLittleEndianAndWrap := by
  refine fun s a => ⟨mkWord_toNat _ _, rfl, mkWord_toNat _ _, rfl, fun h => ?_⟩
  rw [State.readWordWrapped, nextInPage_eq_succ (loByte_ne_of_mask_ne h), State.readWord]

/-! ### The word stack -/

/-- Stack slots at different depths are different bytes: SP counts modulo 256. -/
@[simp] theorem slotBelow_inj {j k : Byte} {s : State} : slotBelow j s = slotBelow k s ↔ j = k := by
  rw [slotBelow, slotBelow, Nat.add_left_cancel_iff, BitVec.toNat_inj, sub_right_inj]

/-- Where SP has gone down by `j`, the slot `k` above it is the slot `j - k` below the old SP. -/
theorem slotAbove_of_sp {s t : State} {j : Byte} (h : t.sp = s.sp - j) (k : Byte) :
    slotAbove k t = slotBelow (j - k) s := by
  rw [slotAbove, slotBelow, h, sub_add]

/-- The two bytes of a pushed word are in their slots: the second push writes a slot of its own (R64). -/
theorem State.push16_ramByte (w : Addr) (s : State) :
    (s.push16 w).ramByte (slotBelow 1 s) = hiByte w ∧ (s.push16 w).ramByte (slotBelow 2 s) = loByte w := by
  have hram : (s.push16 w).ram = (s.ram.set (slotBelow 1 s) (hiByte w)).set (slotBelow 2 s) (loByte w) := by
    rw [State.push16_eq]
    rfl
  simp [State.ramByte, hram, Memory.get_set]

/-- Settles O11: the slots above the new SP are those `push16` wrote below the old one. -/
theorem pullSixteenUndoesPushSixteen : Obligations.PullSixteenUndoesPushSixteen := by
  intro s w
  have hsp : (s.push16 w).sp = s.sp - 2 := by rw [State.push16_eq]
  obtain ⟨hhigh, hlow⟩ := s.push16_ramByte w
  have h0 : (s.push16 w).ramByte (slotAbove 0 (s.push16 w)) = loByte w := by rw [slotAbove_of_sp hsp]; exact hlow
  have h1 : (s.push16 w).ramByte (slotAbove 1 (s.push16 w)) = hiByte w := by rw [slotAbove_of_sp hsp]; exact hhigh
  have hpull (t : State) :
      t.pull16 = (mkWord (t.ramByte (slotAbove 1 t)) (t.ramByte (slotAbove 0 t)), { t with sp := t.sp + 2 }) := by
    rw [State.pull16_eq, slotAbove_zero]
    rfl
  refine ⟨State.push16_eq w s, hpull s, ?_, ?_, h0, h1⟩
  · rw [hpull, h0, h1, mkWord_hi_lo]
  · rw [hpull, hsp, sub_add_cancel]

/-! ### The packed status byte -/

/-- The flags at their bits of the packed byte (R38). -/
theorem State.pack_getLsbD (brk : Bool) (s : State) :
    (s.pack brk).getLsbD 7 = s.n ∧ (s.pack brk).getLsbD 6 = s.v ∧ (s.pack brk).getLsbD 3 = s.d
      ∧ (s.pack brk).getLsbD 2 = s.i ∧ (s.pack brk).getLsbD 1 = s.z ∧ (s.pack brk).getLsbD 0 = s.c := by
  simp [State.pack]

/-- Unpacking a packed byte restores the six flags it keeps; B and all else stay (R38). -/
theorem State.unpack_pack (brk : Bool) (s t : State) :
    t.unpack (s.pack brk) = { t with n := s.n, v := s.v, d := s.d, i := s.i, z := s.z, c := s.c } := by
  obtain ⟨hn, hv, hd, hi, hz, hc⟩ := s.pack_getLsbD brk
  rw [State.unpack, hn, hv, hd, hi, hz, hc]

/-- Settles O12: the bits of the packed byte, and what unpacking makes of them. -/
theorem statusByteRoundTrips : Obligations.StatusByteRoundTrips := by
  intro s t brk p
  obtain ⟨hn, hv, hd, hi, hz, hc⟩ := s.pack_getLsbD brk
  exact ⟨⟨hn, hv, s.pack_getLsbD_five brk, s.pack_getLsbD_four brk, hd, hi, hz, hc⟩, rfl, s.unpack_pack brk t⟩

end Sys2Proof.Machine
end

section
/-! PROOFS. Dispatch up to the handler (spec/40_dispatch.md): resolution (R83 to R92), the state handed to the handler
(R80, R94), the operand read (R98) and the fetch (R95); and signed overflow (spec/43_arith_logic.md section 1). -/

namespace Sys2Proof.Machine

/-! ### Resolution -/

/-- An indexed sum as a number (R87, R91). -/
theorem indexed_ea_toNat (base : Addr) (index : Byte) (s : State) :
    (indexed base index s).ea.toNat = (base.toNat + index.toNat) % 0x10000 := by
  rw [indexed, BitVec.toNat_add, zext16_toNat]

/-- An indexed sum crosses when it leaves the page of its base (R87, R91). -/
theorem indexed_crossed_iff (base : Addr) (index : Byte) (s : State) :
    (indexed base index s).crossed = true ↔ hiByte base ≠ hiByte (indexed base index s).ea := by
  simp only [indexed, add_sub_cancel_right, pagesDiffer_eq, bne_iff_ne]

/-- The same by page numbers. -/
theorem indexed_crossed_iff_toNat (base : Addr) (index : Byte) (s : State) :
    (indexed base index s).crossed = true
      ↔ base.toNat / 256 ≠ (base.toNat + index.toNat) % 0x10000 / 256 := by
  rw [indexed_crossed_iff, ← indexed_ea_toNat base index s, ← hiByte_toNat, ← hiByte_toNat, Ne, Ne, BitVec.toNat_inj]

/-- A zero-page address indexed by a register wraps in the zero page (R86). -/
theorem zext16_add_toNat (k index : Byte) : (zext16 (k + index)).toNat = (k.toNat + index.toNat) % 0x100 := by
  rw [zext16_toNat, BitVec.toNat_add]

/-- Settles O14: each mode's address is one sum, taken modulo the zero page or the address space; only the two indexed
modes compare pages, and only Indirect, which is not among these, reads a pointer PERIPH could see. -/
theorem directModesResolve : Obligations.DirectModesResolve := by
  intro s p w k
  refine ⟨fun o ho => resolve_state_of_not_indirect ?_ p s, fun o ho => ?_, rfl, rfl, BitVec.toNat_add p 1, zext16_toNat k,
    zext16_add_toNat k s.x, zext16_add_toNat k s.y, ?_, rfl, indexed_ea_toNat w s.x s, indexed_ea_toNat w s.y s,
    indexed_crossed_iff_toNat w s.x s, indexed_crossed_iff_toNat w s.y s⟩
  · revert o
    simp [Operand.mode]
  · revert o
    simp [resolve]
  · rw [← sext16_eq]
    rfl

/-- The pointer pair of IndexedIndirect stands in the zero page at its operand plus X (R90). -/
theorem resolve_indexedIndirect (k : Byte) (p : Addr) (s : State) :
    resolve (.indexedIndirect k) p s =
      { ea := mkWord (s.ramByte ((k.toNat + s.x.toNat + 1) % 0x100)) (s.ramByte ((k.toNat + s.x.toNat) % 0x100))
        crossed := false, state := s } := by
  have hsucc : ((k.toNat + s.x.toNat) % 0x100 + 1) % 0x100 = (k.toNat + s.x.toNat + 1) % 0x100 := by omega
  rw [resolve, State.readWordWrapped_zext16, BitVec.toNat_add, hsucc]

/-- The pointer pair of IndirectIndexed stands in the zero page at its operand, and Y is added to the word (R91). -/
theorem resolve_indirectIndexed (k : Byte) (p : Addr) (s : State) :
    resolve (.indirectIndexed k) p s =
      indexed (mkWord (s.ramByte ((k.toNat + 1) % 0x100)) (s.ramByte k.toNat)) s.y s := by
  rw [resolve, State.readWordWrapped_zext16]

/-- Settles O15: the pointer each mode reads, to which IndirectIndexed adds Y. -/
theorem pointerModesResolve : Obligations.PointerModesResolve := by
  intro s p w k
  rw [resolve_indexedIndirect, resolve_indirectIndexed]
  exact ⟨rfl, rfl, rfl, rfl, indexed_crossed_iff _ s.y s, rfl, rfl⟩

/-! ### The state handed to the handler -/

/-- JMP has the one Indirect form (R77, R160). -/
theorem eq_jmpInd_of_indirect {i : Instr} (h : i.operand.mode = .indirect) : ∃ w, i = .jmpInd w := by
  cases i
  case jmpInd w => exact ⟨w, rfl⟩
  all_goals exact Mode.noConfusion h

/-- Settles O16: the advance and the charge; what PERIPH has seen changes only by the pointer reads of Indirect mode. -/
theorem readyStateAdvancesAndCharges : Obligations.ReadyStateAdvancesAndCharges := by
  refine fun i s => ⟨?_, fun h => eq_jmpInd_of_indirect (Decidable.byContradiction fun hm => h ?_)⟩
  · rw [ready, readyState_eq, chargeOf, ← Nat.add_assoc]
    rfl
  · rw [ready, readyState_of_not_indirect hm]

/-! ### The operand read -/

/-- In every other mode the operand is read from memory at the effective address (R98). -/
theorem readOperand_of_memory {ctx : Ctx} (h : ctx.operand ≠ .accumulator) (h' : ∀ k, ctx.operand ≠ .immediate k)
    (s : State) : readOperand ctx s = s.readByte ctx.ea := by
  unfold readOperand
  split
  · contradiction
  · exact absurd ‹_› (h' _)
  · rfl

/-- Settles O17: the three cases of the operand read. -/
theorem operandReadsFollowTheMode : Obligations.OperandReadsFollowTheMode := by
  intro i s
  refine ⟨fun h => ⟨?_, afterRead_of_accumulator h s⟩, fun k h => ?immediate, fun h h' => ?memory,
    readOperand_state_eq _ _⟩
  · rw [operandByte, h]
    exact (ready_keeps_registers i s).1
  case immediate =>
    rw [operandByte, afterRead, h]
    exact ⟨rfl, rfl⟩
  case memory =>
    have hread := readOperand_of_memory (ctx := contextOf i.opcode i.operand s) h h' (ready i s)
    exact ⟨congrArg Prod.fst hread, congrArg Prod.snd hread⟩

/-! ### The fetch -/

/-- Settles O48: the bytes and transfers are those of the opcode's mode, whose entry's length is that mode's. -/
theorem fetchReadsTheInstructionsBytes : Obligations.FetchReadsTheInstructionsBytes := by
  intro s
  have hlen := optable_length_of_mode (s.peek s.pc)
  refine ⟨⟨_, s.decode_fetchBytes⟩, ?_⟩
  simp only [State.fetchBytes, State.readByte]
  cases hm : (optable (s.peek s.pc)).mode <;> rw [hm] at hlen <;> simp [hlen]

/-! ### Signed overflow -/

/-- A byte is negative when its value reaches 128, and its signed value is then 256 less. -/
theorem byte_toInt (v : Byte) : v.toInt = if 128 ≤ v.toNat then (v.toNat : Int) - 256 else v.toNat := by
  revert v
  decide

/-- The overflow tests of R127 and R128 by signs: of an addition, the operands have one sign and the result the other; of
a subtraction, the first operand's sign differs from both. -/
theorem overflow_iff_signs (a m r : Byte) :
    (addOverflow a m r = true ↔ (128 ≤ a.toNat ↔ 128 ≤ m.toNat) ∧ ¬(128 ≤ a.toNat ↔ 128 ≤ r.toNat))
      ∧ (subOverflow a m r = true ↔ ¬(128 ≤ a.toNat ↔ 128 ≤ m.toNat) ∧ ¬(128 ≤ a.toNat ↔ 128 ≤ r.toNat)) := by
  have hbit (v : Byte) : (v &&& 0x80#8 != 0) = v.msb := by
    revert v
    decide
  have hsign (v : Byte) : 128 ≤ v.toNat ↔ v.msb = true := by rw [BitVec.msb_eq_decide, decide_eq_true_iff]
  rw [addOverflow, subOverflow, hbit, hbit, hsign, hsign, hsign, BitVec.msb_and, BitVec.msb_and, BitVec.msb_not,
    BitVec.msb_xor, BitVec.msb_xor]
  cases a.msb <;> cases m.msb <;> cases r.msb <;> decide

/-- The carry out of a sum of two bytes and a carry is its ninth bit. -/
theorem carry_toNat {n : Nat} (h : n < 512) : (decide (0xFF < n)).toNat = n / 256 := by
  by_cases hn : 0xFF < n
  · rw [decide_eq_true hn, Bool.toNat_true]
    omega
  · rw [decide_eq_false hn, Bool.toNat_false]
    omega

/-- Settles O24: by the signs of the operands and of the result, whose value is the exact sum modulo 256. -/
theorem overflowIsSignedOverflow : Obligations.OverflowIsSignedOverflow := by
  intro a m c
  have ha := a.isLt
  have hm := m.isLt
  have hc := c.toNat_le
  have hadd : (adcBinary a m c).a.toNat = (a.toNat + m.toNat + c.toNat) % 256 := BitVec.toNat_ofNat _ _
  have hsub : (sbcBinary a m c).a.toNat = (a.toNat + (255 - m.toNat) + c.toNat) % 256 := by
    rw [← byte_complement_toNat]
    exact BitVec.toNat_ofNat _ _
  have hcarry : (adcBinary a m c).c.toNat = (a.toNat + m.toNat + c.toNat) / 256 := carry_toNat (by omega)
  have hborrow : (sbcBinary a m c).c.toNat = (a.toNat + (255 - m.toNat) + c.toNat) / 256 := by
    rw [← byte_complement_toNat]
    exact carry_toNat (by rw [byte_complement_toNat]; omega)
  have hv := (overflow_iff_signs a m (adcBinary a m c).a).1
  have hv' := (overflow_iff_signs a m (sbcBinary a m c).a).2
  rw [byte_toInt, byte_toInt]
  exact ⟨hv.trans (by omega), hv'.trans (by omega), by omega, by omega⟩

end Sys2Proof.Machine
end

section
/-! PROOFS. The frame of an instruction (spec/10_state.md sections 1 to 3): one lemma says for every handler what it leaves
as it was, and every frame statement about an instruction or a step is read off it. -/

namespace Sys2Proof.Machine

/-- The mnemonics whose handler is `branch` (R169 to R176). -/
abbrev branchMnemonics : List Mnemonic := [.BCC, .BCS, .BEQ, .BMI, .BNE, .BPL, .BVC, .BVS]

/-- What a handler for mnemonic `m` and operand `o` leaves as it was when it takes `s` to `t`: for each register and flag
(R31 to R35), for the cycle count beyond the charge (R39, R93) and for memory, unless `m` is a listed writer of it. -/
structure Frame (m : Mnemonic) (o : Operand) (s t : State) : Prop where
  a : m ∉ [.LDA, .PLA, .TXA, .TYA, .ADC, .SBC, .AND, .ORA, .EOR] → ¬(isShift m = true ∧ o = .accumulator) → t.a = s.a
  x : m ∉ [.LDX, .TAX, .TSX, .INX, .DEX] → t.x = s.x
  y : m ∉ [.LDY, .TAY, .INY, .DEY] → t.y = s.y
  sp : m ∉ [.TXS, .PHA, .PHP, .PLA, .PLP, .JSR, .RTS, .RTI, .BRK] → t.sp = s.sp
  pc : m ∉ [.JMP, .JSR, .RTS, .RTI, .BRK, .BCC, .BCS, .BEQ, .BMI, .BNE, .BPL, .BVC, .BVS] → t.pc = s.pc
  c : m ∉ [.ADC, .SBC, .CMP, .CPX, .CPY, .ASL, .LSR, .ROL, .ROR, .CLC, .SEC, .PLP, .RTI] → t.c = s.c
  zn : m ∉ [.ADC, .SBC, .AND, .ORA, .EOR, .BIT, .CMP, .CPX, .CPY, .INC, .DEC, .INX, .INY, .DEX, .DEY, .ASL, .LSR, .ROL,
      .ROR, .LDA, .LDX, .LDY, .TAX, .TAY, .TXA, .TYA, .TSX, .PLA, .PLP, .RTI] → t.z = s.z ∧ t.n = s.n
  i : m ∉ [.SEI, .CLI, .PLP, .RTI, .BRK] → t.i = s.i
  d : m ∉ [.SED, .CLD, .PLP, .RTI] → t.d = s.d
  b : t.b = s.b
  v : m ∉ [.ADC, .SBC, .BIT, .CLV, .PLP, .RTI] → t.v = s.v
  cycles : m ∉ branchMnemonics → t.cycles = s.cycles
  cycles_le : s.cycles ≤ t.cycles ∧ t.cycles ≤ s.cycles + 2
  memory : m ∉ [.STA, .STX, .STY, .INC, .DEC, .PHA, .PHP, .JSR, .BRK] → ¬(isShift m = true ∧ o ≠ .accumulator) →
    t.ram = s.ram ∧ t.mapper = s.mapper

/-- A state keeps all of itself. -/
theorem Frame.refl (m : Mnemonic) (o : Operand) (s : State) : Frame m o s s := by
  constructor <;> simp

/-- A branch writes PC and adds at most two cycles (R166). -/
theorem branch_frame {m : Mnemonic} (hm : m ∈ branchMnemonics) (taken : Bool) (ctx : Ctx) (s : State) :
    Frame m ctx.operand s (branch taken ctx s) := by
  have hcycles : (if taken then 1 + (if pagesDiffer ctx.pc ctx.ea then 1 else 0) else 0) ≤ 2 := by
    split_ifs <;> omega
  have hpc : m ∈ [.JMP, .JSR, .RTS, .RTI, .BRK] ++ branchMnemonics := List.mem_append_right _ hm
  constructor
  case pc => exact fun h => absurd hpc h
  case cycles => exact fun h => absurd hm h
  case cycles_le =>
    rw [branch_eq]
    exact ⟨Nat.le_add_right _ _, Nat.add_le_add_left hcycles _⟩
  all_goals simp

/-- A shift's write back is to A in the accumulator form and to memory in the others (R98). -/
theorem shiftOp_a_of_memory {ctx : Ctx} (h : ctx.operand ≠ .accumulator) (f : Byte → Bool → Byte × Bool) (s : State) :
    (shiftOp f ctx s).a = s.a := by
  simp [shiftOp, writeback_memory h]

theorem shiftOp_memory_of_accumulator {ctx : Ctx} (h : ctx.operand = .accumulator) (f : Byte → Bool → Byte × Bool)
    (s : State) : (shiftOp f ctx s).ram = s.ram ∧ (shiftOp f ctx s).mapper = s.mapper := by
  simp [shiftOp, writeback_accumulator h]

theorem shiftOp_frame {m : Mnemonic} (hm : isShift m = true) (f : Byte → Bool → Byte × Bool) (ctx : Ctx) (s : State) :
    Frame m ctx.operand s (shiftOp f ctx s) := by
  have hlist : m = .ASL ∨ m = .LSR ∨ m = .ROL ∨ m = .ROR := by simpa [isShift, or_assoc] using hm
  constructor
  case a => exact fun _ h => shiftOp_a_of_memory (fun ho => h ⟨hm, ho⟩) f s
  case memory => exact fun _ h => shiftOp_memory_of_accumulator (Decidable.byContradiction fun ho => h ⟨hm, ho⟩) f s
  case c | zn => rcases hlist with rfl | rfl | rfl | rfl <;> simp
  all_goals simp

/-- The frame of every handler, by the shape of the handler; only a shift has an accumulator form. -/
theorem handlerOf_frame {m : Mnemonic} {ctx : Ctx} (hacc : ctx.operand = .accumulator → isShift m = true) (s : State) :
    Frame m ctx.operand s (handlerOf m ctx s) := by
  cases m
  case BCC | BCS | BEQ | BMI | BNE | BPL | BVC | BVS => exact branch_frame (by decide) _ ctx s
  case ASL | LSR | ROL | ROR =>
    rw [handlerOf_of_isShift (by decide)]
    exact shiftOp_frame (by decide) _ ctx s
  case INC | DEC =>
    have hmem : ctx.operand ≠ .accumulator := fun h => absurd (hacc h) (by decide)
    constructor <;> simp [handlerOf, handleInc, handleDec, writeback_memory hmem]
  case ADC | SBC => constructor <;> simp [handlerOf, handleAdc, handleSbc]
  case AND | ORA | EOR => constructor <;> simp [handlerOf, handleAnd, handleOra, handleEor]
  case CMP | CPX | CPY | BIT => constructor <;> simp [handlerOf, handleCmp, handleCpx, handleCpy, handleBit]
  case LDA | LDX | LDY => constructor <;> simp [handlerOf, handleLda, handleLdx, handleLdy]
  case STA | STX | STY => constructor <;> simp [handlerOf, handleSta, handleStx, handleSty]
  case PHA | PHP => constructor <;> simp [handlerOf, handlePha, handlePhp]
  case PLA | PLP => constructor <;> simp [handlerOf, handlePla, handlePlp]
  case JSR | RTS | RTI => constructor <;> simp [handlerOf, handleJsr, handleRts, handleRti]
  case BRK => constructor <;> simp [handlerOf, handleBrk_eq]
  case TAX | TAY | TXA | TYA | TSX | TXS =>
    constructor <;> simp [handlerOf, handleTax, handleTay, handleTxa, handleTya, handleTsx, handleTxs]
  case INX | INY | DEX | DEY => constructor <;> simp [handlerOf, handleInx, handleIny, handleDex, handleDey]
  case CLC | SEC | CLI | SEI | CLD | SED | CLV =>
    constructor <;> simp [handlerOf, handleClc, handleSec, handleCli, handleSei, handleCld, handleSed, handleClv]
  case JMP => constructor <;> simp [handlerOf, handleJmp]
  -- NOP and the mnemonics without a handler.
  all_goals exact Frame.refl _ _ s

/-! ### Instructions -/

/-- The accumulator form is the shifts' alone. -/
theorem isShift_of_accumulator {i : Instr} (h : i.operand = .accumulator) : isShift i.mnemonic = true := by
  obtain ⟨-, -, -, hwf⟩ := Laws.Table.all i
  rw [Instr.WellFormed, h] at hwf
  revert hwf
  cases i.mnemonic <;> decide

/-- An instruction keeps of the state handed to its handler what its mnemonic's handler keeps; where the slot has none,
all but the fault list. -/
theorem exec_frame {i : Instr} {s t : State} (h : exec i s = .next t) : Frame i.mnemonic i.operand (ready i s) t := by
  obtain ⟨-, rfl⟩ | ⟨-, rfl⟩ := exec_cases h
  · exact handlerOf_frame (ctx := contextOf i.opcode i.operand s) isShift_of_accumulator _
  · exact { Frame.refl i.mnemonic i.operand (ready i s) with }

/-- Settles O39: the frame of the handler, from the state handed to it. -/
theorem onlyListedInstructionsWriteRegisters : Obligations.OnlyListedInstructionsWriteRegisters := by
  intro i s t h
  have hf := exec_frame h
  refine ⟨fun h1 h2 => (hf.a h1 h2).trans ?_, fun h1 => (hf.x h1).trans ?_, fun h1 => (hf.y h1).trans ?_,
    fun h1 => (hf.sp h1).trans ?_, fun h1 => (hf.pc h1).trans ?_⟩
  all_goals rw [ready, readyState_eq]
  rfl

/-- Settles O40: the frame of the handler, from the state handed to it. -/
theorem onlyListedInstructionsWriteFlags : Obligations.OnlyListedInstructionsWriteFlags := by
  intro i s t h
  have hf := exec_frame h
  simp only [ready, readyState_eq] at hf
  exact ⟨hf.c, hf.zn, hf.i, hf.d, hf.b, hf.v⟩

end Sys2Proof.Machine
end

section
/-! PROOFS. What an instruction does to the bookkeeping and to memory: the mailbox, the counters and the fault list
(spec/10_state.md section 3), and the bytes a form stores, pushes or leaves (spec/40_dispatch.md section 3). -/

namespace Sys2Proof.Machine

/-! ### Bookkeeping -/

/-- An instruction appends one record when its slot has no handler, and otherwise none (R40, R300). -/
theorem exec_faults {i : Instr} {s t : State} (h : exec i s = .next t) :
    t.faults = s.faults ++ (if handlerPresent i.opcode s.params then [] else [.illegalOpcode i.opcode s.pc]) := by
  obtain ⟨hp, rfl⟩ | ⟨hp, rfl⟩ := exec_cases h
  · obtain ⟨-, -, -, -, hf⟩ :=
      handlerOf_keeps_bookkeeping i.mnemonic (contextOf i.opcode i.operand s) (readyState i.opcode i.operand s)
    simp [hf, hp]
  · simp [hp, State.raiseIllegal]

/-- The charge before the handler is the table's, so at least 2 and at most 8 cycles (R94, R261). -/
theorem chargeOf_bounds (op : Byte) (crossed : Bool) : 2 ≤ chargeOf op crossed ∧ chargeOf op crossed ≤ 8 := by
  have h := optable_cycles op
  cases crossed <;> simp [chargeOf] <;> omega

/-- A Relative entry charges two cycles, page bonus included (R94). -/
theorem chargeOf_relative {op : Byte} (h : (optable op).mode = .relative) (crossed : Bool) : chargeOf op crossed = 2 := by
  revert op crossed
  decide

/-- The branches have the Relative form alone (R165). -/
theorem operand_mode_of_branch {i : Instr} (h : i.mnemonic ∈ branchMnemonics) : i.operand.mode = .relative := by
  have hlegal : ∀ m ∈ branchMnemonics, legalModes m = [.relative] := by decide
  obtain ⟨-, -, -, hwf⟩ := Laws.Table.all i
  rw [Instr.WellFormed, modeLegal, hlegal _ h] at hwf
  exact List.mem_singleton.mp (List.contains_iff_mem.mp hwf)

theorem ready_cycles (i : Instr) (s : State) :
    (ready i s).cycles = s.cycles + chargeOf i.opcode (resolve i.operand s.pc s).crossed := by
  rw [ready, readyState_eq]

/-- An instruction costs 2 to 8 cycles: only a branch adds to its charge, and that charge is 2 (R94, R166, R261). -/
theorem exec_cycles {i : Instr} {s t : State} (h : exec i s = .next t) :
    s.cycles + 2 ≤ t.cycles ∧ t.cycles ≤ s.cycles + 8 := by
  have hf := exec_frame h
  obtain ⟨hle, hle'⟩ := hf.cycles_le
  obtain ⟨hc, hc'⟩ := chargeOf_bounds i.opcode (resolve i.operand s.pc s).crossed
  rw [ready_cycles] at hle hle'
  by_cases hb : i.mnemonic ∈ branchMnemonics
  · obtain ⟨-, hmode, -⟩ := Laws.Table.all i
    rw [chargeOf_relative (hmode.trans (operand_mode_of_branch hb))] at hle hle'
    omega
  · have heq := hf.cycles hb
    rw [ready_cycles] at heq
    omega

/-- Settles O41: neither the charge, nor a handler, nor IllegalOpcode touches the four fields; the record and the cycles
are those of the slot. -/
theorem instructionsKeepTheBookkeeping : Obligations.InstructionsKeepTheBookkeeping := by
  intro i s t h
  obtain ⟨hm, hs, hp, he⟩ := exec_keeps_bookkeeping h
  exact ⟨hm, hs, hp, he, exec_faults h, (exec_cycles h).1⟩

/-! ### Reads from equal memory -/

/-- A read of a memory address sees the RAM byte of its index and the mapper, and nothing else. -/
theorem State.peek_eq_of_get_eq {s t : State} {b : Addr} (hb : isMemory b = true) (he : t.ramEpoch = s.ramEpoch)
    (hm : t.mapper = s.mapper) (hr : b.toNat < 0x2000 → t.ram.get (b.toNat % 0x800) = s.ram.get (b.toNat % 0x800)) :
    t.peek b = s.peek b := by
  rcases (isMemory_iff b).mp hb with h | h
  · simp [State.peek_def, State.ramByte, ramIndex, h, he, hr ((route_ram_iff b).mp h)]
  · simp [State.peek_def, h, hm]

/-! ### Forms that store and push nothing -/

/-- Settles O42: the frame of the handler, from the state handed to it. -/
theorem nonStoringFormsKeepMemory : Obligations.NonStoringFormsKeepMemory := by
  intro i s t hstore hpush h
  obtain ⟨hram, hmap⟩ : t.ram = s.ram ∧ t.mapper = s.mapper := by
    have hf := (exec_frame h).memory
    simp only [ready, readyState_ram, readyState_mapper] at hf
    simp only [storesAtEa, pushes, Bool.or_eq_false_iff, beq_eq_false_iff_ne, Bool.and_eq_false_imp, bne_eq_false_iff_eq]
      at hstore hpush
    exact hf (by simp [hstore, hpush]) (fun ⟨hshift, hmem⟩ => hmem (hstore.2 hshift))
  obtain ⟨-, -, -, hepoch⟩ := exec_keeps_bookkeeping h
  exact ⟨hram, hmap, fun a ha => State.peek_memory_congr ha hram hepoch hmap⟩

/-! ### Forms that store -/

/-- What a bus write leaves in RAM and in the mapper depends on these two and the parameters alone. -/
theorem State.writeByte_memory_congr {s u : State} (hr : u.ram = s.ram) (hm : u.mapper = s.mapper)
    (hp : u.params = s.params) (a : Addr) (w : Byte) :
    (u.writeByte a w).ram = (s.writeByte a w).ram ∧ (u.writeByte a w).mapper = (s.writeByte a w).mapper := by
  rw [State.writeByte_def, State.writeByte_def]
  cases route a <;> simp [hr, hm, hp]

/-- A form that stores leaves memory as one bus write at its effective address does. -/
theorem exec_of_storesAtEa {i : Instr} {s t : State} (hi : storesAtEa i = true) (h : exec i s = .next t) :
    ∃ w, t.ram = (s.writeByte (eaOf i s) w).ram ∧ t.mapper = (s.writeByte (eaOf i s) w).mapper := by
  have hready (w : Byte) := State.writeByte_memory_congr (s := s) (u := ready i s) (by simp [ready]) (by simp [ready])
    (by simp [ready]) (eaOf i s) w
  have hread (w : Byte) := State.writeByte_memory_congr (s := s) (u := afterRead i s) (by simp [afterRead, ready])
    (by simp [afterRead, ready]) (by simp [afterRead, ready]) (eaOf i s) w
  obtain ⟨hsta, hstx, hsty⟩ := storesWriteTheRegisterAtTheAddress.1 i s
  simp only [storesAtEa, Bool.or_eq_true, beq_iff_eq, Bool.and_eq_true, bne_iff_ne] at hi
  rcases hi with ((((hm | hm) | hm) | hm) | hm) | ⟨hshift, ho⟩
  · cases h.symm.trans (hsta hm)
    exact ⟨_, hready _⟩
  · cases h.symm.trans (hstx hm)
    exact ⟨_, hready _⟩
  · cases h.symm.trans (hsty hm)
    exact ⟨_, hready _⟩
  · cases h.symm.trans (exec_inc s hm)
    exact ⟨_, hread _⟩
  · cases h.symm.trans (exec_dec s hm)
    exact ⟨_, hread _⟩
  · cases h.symm.trans (exec_of_isShift hshift rfl)
    rw [writeback_contextOf ho, State.writeByte_setC]
    exact ⟨_, hread _⟩

/-- A mapper that is not changed by a write elsewhere answers as before (log entry 6). -/
theorem Mapper.read_write_other {kind : MapperWrites} (hk : kind ≠ .anyEffect) {a b : Addr} (h : b ≠ a) (w : Byte)
    (m : Mapper) : (m.write kind a w).read b = m.read b := by
  have hne : a.toNat ≠ b.toNat := fun hc => h (BitVec.eq_of_toNat_eq hc.symm)
  cases kind
  case anyEffect => contradiction
  case ignored => rfl
  case stored => rw [Mapper.read, Mapper.write, Memory.get_set_other _ _ hne]; rfl

/-- Settles O43: memory is left as by one bus write, which the three ranges route to RAM, to the mapper or to PERIPH. -/
theorem storingFormsChangeOneByte : Obligations.StoringFormsChangeOneByte := by
  rintro i s t a hi h rfl
  obtain ⟨w, hram, hmap⟩ := exec_of_storesAtEa hi h
  obtain ⟨-, -, -, hepoch⟩ := exec_keeps_bookkeeping h
  have hpeek (b : Addr) (hb : isMemory b = true) : t.peek b = (s.writeByte (eaOf i s) w).peek b :=
    State.peek_memory_congr hb hram (hepoch.trans (State.writeByte_ramEpoch _ w s).symm) hmap
  refine ⟨fun ha b hb hne => ?_, fun ha => ?_, fun ha => ?_, fun ha ha' => ?_⟩
  · rw [hpeek b hb, State.peek_writeByte_ram ((route_ram_iff _).mpr ha), if_neg]
    exact fun hc => hne ⟨(route_ram_iff b).mp hc.1, hc.2.symm⟩
  · rw [hmap, State.writeByte_of_ram ((route_ram_iff _).mpr ha)]
  · rw [State.writeByte_of_mapper ((route_mapper_iff _).mpr ha)] at hram hmap
    refine ⟨hram, ⟨w, hmap⟩, fun hk b hb hne => ?_⟩
    rcases (isMemory_iff b).mp hb with hr | hr
    · simp [State.peek_def, State.ramByte, hr, hram, hepoch]
    · simp [State.peek_def, hr, hmap, Mapper.read_write_other hk hne]
  · rw [State.writeByte_of_periph ((isMemory_eq_false_iff _).mpr ⟨ha, ha'⟩)] at hram hmap
    exact ⟨hram, hmap, fun b hb => State.peek_memory_congr hb hram hepoch hmap⟩

end Sys2Proof.Machine
end

section
/-! PROOFS. The stack bytes of an instruction (spec/42_stack.md, spec/46_control.md section 1, spec/60_exceptions.md
section 4): what the forms that push change, and that each return undoes its call. -/

namespace Sys2Proof.Machine

/-! ### Forms that push -/

/-- The four instructions that push. -/
theorem eq_of_pushes {i : Instr} (h : pushes i = true) : i = .pha ∨ i = .php ∨ (∃ w, i = .jsr w) ∨ i = .brk := by
  cases i
  case pha => exact .inl rfl
  case php => exact .inr (.inl rfl)
  case jsr w => exact .inr (.inr (.inl ⟨w, rfl⟩))
  case brk => exact .inr (.inr (.inr rfl))
  all_goals exact Bool.noConfusion h

/-- What a form that pushes leaves in memory: one byte more below SP, two with JSR, three with BRK. -/
theorem exec_of_pushes {i : Instr} {s t : State} (hi : pushes i = true) (h : exec i s = .next t) :
    t.mapper = s.mapper
      ∧ ((∃ p, t.ram = s.ram.set (slotBelow 1 s) p)
        ∨ i.mnemonic = .JSR ∧ (∃ p q, t.ram = (s.ram.set (slotBelow 1 s) p).set (slotBelow 2 s) q)
        ∨ i.mnemonic = .BRK
          ∧ ∃ p q r, t.ram = ((s.ram.set (slotBelow 1 s) p).set (slotBelow 2 s) q).set (slotBelow 3 s) r) := by
  obtain ⟨hpha, hphp, -⟩ := stackInstructionsPushAndPullOneByte s
  rcases eq_of_pushes hi with rfl | rfl | ⟨w, rfl⟩ | rfl
  · cases h.symm.trans hpha
    exact ⟨rfl, .inl ⟨_, rfl⟩⟩
  · cases h.symm.trans hphp
    exact ⟨rfl, .inl ⟨_, rfl⟩⟩
  · cases h.symm.trans (exec_jsr s w)
    exact ⟨rfl, .inr (.inl ⟨rfl, _, _, rfl⟩)⟩
  · cases h.symm.trans (brkEntersThroughTheIrqVector s).1
    exact ⟨rfl, .inr (.inr ⟨rfl, _, _, _, rfl⟩)⟩

/-- Settles O44: outside the slots pushed the RAM byte of an address is the one before. -/
theorem pushingFormsChangeStackBytesOnly : Obligations.PushingFormsChangeStackBytesOnly := by
  intro i s t hi h
  obtain ⟨hmap, hram⟩ := exec_of_pushes hi h
  obtain ⟨-, -, -, hepoch⟩ := exec_keeps_bookkeeping h
  refine ⟨hmap, fun b hb hslots => State.peek_eq_of_get_eq hb hepoch hmap fun hlow => ?_⟩
  obtain ⟨h1, h2, h3⟩ := hslots hlow
  rcases hram with ⟨p, hram⟩ | ⟨hm, p, q, hram⟩ | ⟨hm, p, q, r, hram⟩
  · rw [hram, Memory.get_set_other _ _ h1.symm]
  · rw [hram, Memory.get_set_other _ _ (h2 (.inl hm)).symm, Memory.get_set_other _ _ h1.symm]
  · rw [hram, Memory.get_set_other _ _ (h3 hm).symm, Memory.get_set_other _ _ (h2 (.inr hm)).symm,
      Memory.get_set_other _ _ h1.symm]

/-! ### Returns -/

/-- Settles O45: each return finds SP where its call left it and, in the slots above, the bytes its call pushed. -/
theorem returnsUndoTheirCalls : Obligations.ReturnsUndoTheirCalls := by
  intro s t u w
  obtain ⟨hpha, hphp, -⟩ := stackInstructionsPushAndPullOneByte s
  obtain ⟨-, -, hpla, hplp, -⟩ := stackInstructionsPushAndPullOneByte t
  obtain ⟨hjsr, -⟩ := jsrPushesAndRtsReturns s w
  obtain ⟨-, hrts, -⟩ := jsrPushesAndRtsReturns t w
  obtain ⟨hbrk, -⟩ := brkEntersThroughTheIrqVector s
  obtain ⟨hrti, -⟩ := rtiRestoresFlagsAndPc t
  refine ⟨fun ht hu => ?jsr, fun ht hu => ?brk, fun ht hu => ?php, fun ht hu => ?pha⟩
  case jsr =>
    have hsp : t.sp = s.sp - 2 := by cases ht.symm.trans hjsr; rfl
    cases hu.symm.trans hrts
    simp only [slotAbove_of_sp hsp]
    cases ht.symm.trans hjsr
    simp [State.ramByte, Memory.get_set, add_assoc]
  case brk =>
    have hsp : t.sp = s.sp - 3 := by cases ht.symm.trans hbrk; rfl
    cases hu.symm.trans hrti
    simp only [slotAbove_of_sp hsp]
    cases ht.symm.trans hbrk
    simp [State.ramByte, Memory.get_set, State.pack]
  case php =>
    have hsp : t.sp = s.sp - 1 := by cases ht.symm.trans hphp; rfl
    cases hu.symm.trans hplp
    simp only [slotAbove_of_sp hsp]
    cases ht.symm.trans hphp
    simp [State.ramByte, State.pack]
  case pha =>
    have hsp : t.sp = s.sp - 1 := by cases ht.symm.trans hpha; rfl
    cases hu.symm.trans hpla
    simp only [slotAbove_of_sp hsp]
    cases ht.symm.trans hpha
    simp [State.ramByte]

end Sys2Proof.Machine
end

section
/-! PROOFS. The step (spec/40_dispatch.md section 1, spec/60_exceptions.md section 5): when it completes, what it costs,
what it records, and the invariant it keeps. -/

namespace Sys2Proof.Machine

/-! ### The one stop -/

/-- Every instruction completes (R300, R220). -/
theorem exec_completes (i : Instr) (s : State) : ∃ t, exec i s = .next t := by
  cases h : handlerPresent i.opcode s.params
  · exact ⟨_, exec_of_no_handler h⟩
  · exact ⟨_, exec_of_handler h⟩

/-- A step completes where nothing is stuck: a stall step, or an instruction (R80, R81). -/
theorem step_completes {s : State} (h : s.stuckAt = none) : ∃ t, step s = .next t := by
  by_cases h0 : 0 < s.stall
  · exact ⟨_, step_of_stall h h0⟩
  · rw [step_eq h (Nat.eq_zero_of_not_pos h0)]
    exact exec_completes _ _

/-- A stuck machine has no successor (R222). -/
theorem step_of_stuckAt {s : State} {a : Addr} (h : s.stuckAt = some a) : step s = .fault (.mapperViolation a) := by
  simp only [step, h]

/-- Settles O51: the two cases of `stuckAt`. -/
theorem stepCompletesUnlessStuck : Obligations.StepCompletesUnlessStuck := by
  intro s
  cases h : s.stuckAt with
  | none => exact .inl ⟨rfl, step_completes h⟩
  | some a => exact .inr ⟨a, rfl, step_of_stuckAt h⟩

/-- A MapperViolation makes the machine stuck at the first address recorded (R222). -/
theorem State.stuckAt_recordFault_mapperViolation (a : Addr) (s : State) :
    (s.recordFault (.mapperViolation a)).stuckAt = some (s.stuckAt.getD a) := by
  rw [State.stuckAt, State.recordFault, List.findSome?_append, ← State.stuckAt]
  cases s.stuckAt <;> rfl

/-- An IllegalOpcode record never does (R219). -/
theorem State.stuckAt_of_append_illegal {s t : State} {op : Byte} {p : Addr}
    (h : t.faults = s.faults ++ [.illegalOpcode op p]) : t.stuckAt = s.stuckAt := by
  rw [State.stuckAt, h, List.findSome?_append, ← State.stuckAt]
  exact Option.or_none

/-- Settles O52: the two branches of the adaptor's check, and the bus, which hands it no address that fails it. -/
theorem mapperViolationLeavesTheMachineStuck : Obligations.MapperViolationLeavesTheMachineStuck := by
  refine fun s a w => ⟨fun ha => ?below, fun ha => ?mapper, State.touch_faults a s, State.writeByte_faults a w s⟩
  case below =>
    refine ⟨s.recordFault (.mapperViolation a), if_pos ha, if_pos ha, rfl, s.stuckAt.getD a,
      step_of_stuckAt (s.stuckAt_recordFault_mapperViolation a), fun h => ?_⟩
    rw [h]
    rfl
  case mapper =>
    have hr := (route_mapper_iff a).mpr ha
    have hread := State.mapperPortRead_of_mapper hr s
    have hwrite := State.mapperPortWrite_of_mapper hr w s
    refine ⟨hread, hwrite, fun v hv => ?_, fun t ht => ?_⟩
    · cases hv.symm.trans hread
      exact State.readByte_of_mapper hr s
    · cases ht.symm.trans hwrite
      exact State.writeByte_of_mapper hr w s

/-! ### Cost and records -/

@[simp] theorem State.fetched_cycles (s : State) : s.fetched.cycles = s.cycles := by rw [State.fetched_eq]
@[simp] theorem State.fetched_faults (s : State) : s.fetched.faults = s.faults := by rw [State.fetched_eq]
@[simp] theorem State.fetched_b (s : State) : s.fetched.b = s.b := by rw [State.fetched_eq]
@[simp] theorem State.fetched_ram (s : State) : s.fetched.ram = s.ram := by rw [State.fetched_eq]
@[simp] theorem State.fetched_mapper (s : State) : s.fetched.mapper = s.mapper := by rw [State.fetched_eq]

/-- A step that owes no stall costs an instruction, 2 to 8 cycles, and what mailbox service costs before it (R202, R261). -/
theorem step_cycles {s t : State} (h : step s = .next t) (h0 : s.stall = 0) :
    s.cycles + 2 ≤ t.cycles ∧ t.cycles ≤ s.cycles + s.params.interruptCycles + 8 := by
  obtain ⟨-, ⟨hp, -⟩ | ⟨-, hx⟩⟩ := step_cases h
  · omega
  · obtain ⟨-, -, -, -, -, -, -, -, hle, hle'⟩ := s.serviceMailbox_keeps
    have hc := exec_cycles hx
    rw [State.fetched_cycles] at hc
    omega

/-- Reset with NMI in place of the Reset request, and SLO (ptr,X), an entry of 8 cycles, where its vector points. -/
def nmiThenSlo : State := ({ State.reset with mailbox := some .nmi }).withFetchWord 16 0x0003

/-- Settles O53: the stall step's one cycle, the bounds of the others, and a step at each bound. -/
theorem stepCostsOneToFifteenCycles : Obligations.StepCostsOneToFifteenCycles := by
  refine ⟨fun s t h7 h => ?_, fun op => (optable_cycles op).1, ?_, ?_⟩
  · by_cases h0 : s.stall = 0
    · obtain ⟨hle, hle'⟩ := step_cycles h h0
      simp only [stepOutput]
      omega
    · obtain ⟨-, ⟨-, rfl⟩ | ⟨hz, -⟩⟩ := step_cases h
      · rw [stepOutput_stallStep]
        exact ⟨fun _ => rfl, fun hz => absurd hz h0, by decide, rfl⟩
      · exact absurd hz h0
  · exact ⟨State.reset.withFetchWord 8 0xEA, _, rfl, rfl, rfl⟩
  · exact ⟨nmiThenSlo, _, rfl, rfl, rfl⟩

/-- A step appends one IllegalOpcode record or none (R40, R219). -/
theorem step_faults {s t : State} (h : step s = .next t) :
    t.faults = s.faults ∨ ∃ op p, t.faults = s.faults ++ [.illegalOpcode op p] := by
  obtain ⟨-, ⟨-, rfl⟩ | ⟨-, hx⟩⟩ := step_cases h
  · exact .inl rfl
  · obtain ⟨-, -, -, hf, -⟩ := s.serviceMailbox_keeps
    have hx := exec_faults hx
    rw [State.fetched_faults, hf] at hx
    split at hx
    · exact .inl (hx.trans (List.append_nil _))
    · exact .inr ⟨_, _, hx⟩

/-- Settles O55: what a step signals is the record it appended. -/
theorem faultRecordsAreSticky : Obligations.FaultRecordsAreSticky := by
  intro s t h
  rcases step_faults h with hf | ⟨op, p, hf⟩
  · exact .inl ⟨hf, by simp [stepOutput, hf]⟩
  · exact .inr ⟨op, p, hf, by simp [stepOutput, hf]⟩

end Sys2Proof.Machine
end

section
/-! PROOFS. The invariant (spec/10_state.md sections 3 and 4, spec/20_memory.md section 2): power-on has it, every step and
every host input keeps it, so every reachable state has it; and the host port (spec/60_exceptions.md sections 1 and 6). -/

namespace Sys2Proof.Machine

/-! ### Memory in canonical form -/

/-- The invariant speaks of the memories, B and the fault list. -/
theorem State.inv_iff (s : State) : s.Inv ↔ s.memoryOk ∧ s.b = false ∧ s.stuckAt = none :=
  ⟨fun ⟨h1, h2, h3, h4, hb, hs⟩ => ⟨⟨h1, h2, h3, h4⟩, hb, hs⟩, fun ⟨⟨h1, h2, h3, h4⟩, hb, hs⟩ => ⟨h1, h2, h3, h4, hb, hs⟩⟩

/-- A stack byte written keeps RAM canonical: every slot is a physical index. -/
theorem Memory.set_slot_ok {m : Memory} (h : m.wf ∧ m.within 0 0x800) (k : Byte) (s : State) (w : Byte) :
    (m.set (slotBelow k s) w).wf ∧ (m.set (slotBelow k s) w).within 0 0x800 := by
  have hk : slotBelow k s < 0x800 := by
    have := (s.sp - k).isLt
    unfold slotBelow
    omega
  exact ⟨Memory.set_wf h.1 _ _, Memory.set_within h.2 ⟨Nat.zero_le _, hk⟩ _⟩

/-- An instruction keeps the memories canonical: it leaves them as they are, or as one bus write does, or with up to three
stack bytes written. -/
theorem exec_memoryOk {i : Instr} {s t : State} (hs : s.memoryOk) (h : exec i s = .next t) : t.memoryOk := by
  cases hstore : storesAtEa i
  case true =>
    obtain ⟨w, hram, hmap⟩ := exec_of_storesAtEa hstore h
    exact State.memoryOk_congr hram hmap (State.writeByte_memoryOk hs _ w)
  case false =>
    cases hpush : pushes i
    case false =>
      obtain ⟨hram, hmap, -⟩ := nonStoringFormsKeepMemory i s t hstore hpush h
      exact State.memoryOk_congr hram hmap hs
    case true =>
      obtain ⟨hwf, hwithin, himage⟩ := hs
      obtain ⟨hmap, hram⟩ := exec_of_pushes hpush h
      have hok : t.ram.wf ∧ t.ram.within 0 0x800 := by
        have h1 (p : Byte) := Memory.set_slot_ok ⟨hwf, hwithin⟩ 1 s p
        have h2 (p q : Byte) := Memory.set_slot_ok (h1 p) 2 s q
        rcases hram with ⟨p, hram⟩ | ⟨-, p, q, hram⟩ | ⟨-, p, q, r, hram⟩
        all_goals rw [hram]
        · exact h1 p
        · exact h2 p q
        · exact Memory.set_slot_ok (h2 p q) 3 s r
      rw [← hmap] at himage
      exact ⟨hok.1, hok.2, himage⟩

/-- What mailbox service can do: empty the mailbox, enter through a vector, or load PC (R201 to R207). -/
theorem State.serviceMailbox_cases (s : State) :
    s.serviceMailbox = s.setMailbox none ∨ (∃ vector, s.serviceMailbox = s.interruptEntry vector)
      ∨ s.serviceMailbox = { s with mailbox := none, pc := vectorWord resetVector s } := by
  match hm : s.mailbox with
  | none => exact .inl (by rw [State.serviceMailbox, hm]; rfl)
  | some .irq =>
    cases hi : s.i
    · exact .inr (.inl ⟨_, State.serviceMailbox_of_irq hm hi⟩)
    · exact .inl (State.serviceMailbox_of_masked_irq hm hi)
  | some .nmi => exact .inr (.inl ⟨_, State.serviceMailbox_of_nmi hm⟩)
  | some .reset => exact .inr (.inr (State.serviceMailbox_of_reset hm))

theorem State.serviceMailbox_memoryOk {s : State} (h : s.memoryOk) : s.serviceMailbox.memoryOk := by
  obtain hm | ⟨vector, hm⟩ | hm := s.serviceMailbox_cases
  all_goals rw [hm]
  · exact h
  · exact State.enterTrap_memoryOk (s := s.setMailbox none) h _ _ _
  · exact h

/-! ### The invariant -/

/-- Settles O56: the fault list grows by IllegalOpcode records alone, B is in no frame's list of writers, and service, the
fetch and the instruction each keep the memories canonical. -/
theorem everyStepKeepsTheInvariant : Obligations.EveryStepKeepsTheInvariant := by
  intro s t hs h
  obtain ⟨hmem, hb, hstuck⟩ := s.inv_iff.mp hs
  have hstuck' : t.stuckAt = none := by
    rcases step_faults h with hf | ⟨op, p, hf⟩
    · rw [State.stuckAt, hf]
      exact hstuck
    · rw [State.stuckAt_of_append_illegal hf, hstuck]
  obtain ⟨-, ⟨-, rfl⟩ | ⟨-, hx⟩⟩ := step_cases h
  · exact (State.inv_iff _).mpr ⟨hmem, hb, hstuck'⟩
  · have hfetched : s.serviceMailbox.fetched.memoryOk :=
      State.memoryOk_congr (State.fetched_ram _) (State.fetched_mapper _) (State.serviceMailbox_memoryOk hmem)
    obtain ⟨-, -, -, -, hb', -⟩ := s.serviceMailbox_keeps
    obtain ⟨-, -, -, -, hbx, -⟩ := onlyListedInstructionsWriteFlags _ _ _ hx
    exact t.inv_iff.mpr ⟨exec_memoryOk hfetched hx, by rw [hbx, State.fetched_b, hb', hb], hstuck'⟩

/-- A host input keeps the invariant: it posts a request, adds a stall, or resets the bus, which leaves RAM unlisted and
the mapper's bytes known or none of them. -/
theorem State.input_inv {s : State} (hs : s.Inv) (h : HostInput) : (s.input h).Inv := by
  obtain ⟨hmem, hb, hstuck⟩ := s.inv_iff.mp hs
  cases h
  case requestInterrupt => exact (State.inv_iff _).mpr ⟨hmem, hb, hstuck⟩
  case addStall => exact (State.inv_iff _).mpr ⟨hmem, hb, hstuck⟩
  case busReset => exact (State.inv_iff _).mpr ⟨State.busReset_memoryOk hmem, hb, hstuck⟩

/-- The block as constructed has the invariant: RAM is unlisted, B is 0 and nothing is recorded. -/
theorem State.powerOnWith_inv (w : Draws) (params : Params) {image : Memory} (wf : image.wf)
    (within : image.within 0x6000 0x10000) : (State.powerOnWith w params image).Inv :=
  ⟨nil_wf, nil_within _ _, wf, within, rfl, rfl⟩

/-- Every reachable state has the invariant. -/
theorem Reachable.inv {s : State} (h : Reachable s) : s.Inv := by
  induction h with
  | powerOn w params image wf within => exact State.powerOnWith_inv w params wf within
  | input h _ ih => exact State.input_inv ih h
  | step _ h ih => exact everyStepKeepsTheInvariant _ _ ih h

/-- Settles O57: the invariant of a reachable state says that nothing is stuck. -/
theorem reachableStatesAreNeverStuck : Obligations.ReachableStatesAreNeverStuck :=
  fun _ h => ⟨h.inv, step_completes h.inv.not_stuck⟩

/-- Settles O58: the record of power-on, field by field, and the invariant it has. -/
theorem powerOnHoldsTheSpecsValues : Obligations.PowerOnHoldsTheSpecsValues :=
  ⟨fun w params _ wf within => ⟨rfl, rfl, rfl, rfl, rfl, rfl, rfl, rfl, rfl, rfl, rfl, rfl, rfl, rfl, rfl, rfl, fun _ => rfl,
    State.powerOnWith_inv w params wf within⟩, rfl,
    State.powerOnWith_inv Draws.chosen {} nil_wf (nil_within _ _)⟩

/-! ### The host port -/

/-- After a bus reset a mapper of which nothing is assumed may answer anything: no byte of it is known (log entry 6). -/
theorem State.peek_busReset {s : State} (hk : s.params.mapperWrites = .anyEffect) {a : Addr} (ha : 0x6000 ≤ a.toNat) :
    s.busReset.peek a = Config.mapperRead (.busReset :: s.mapper.events) a := by
  have hr : route a = .mapper := (route_mapper_iff a).mpr ha
  simp only [State.peek_def, hr, State.busReset, hk]
  rfl

/-- Settles O59: each input is a record update, whose one computation is the sum of two stalls; the snapshot reads. -/
theorem hostPortFollowsItsRules : Obligations.HostPortFollowsItsRules := by
  intro s k k' p q
  have hstall : (s.addStall p).addStall q = s.addStall (p + q) := by
    simp only [State.addStall, Nat.add_assoc]
  exact ⟨rfl, rfl, rfl, hstall, rfl, fun _ => rfl, fun hk _ ha => State.peek_busReset hk ha, rfl, rfl, rfl, rfl, rfl, rfl,
    rfl, rfl, rfl⟩

end Sys2Proof.Machine
end

section
/-! PROOFS. The cycle counter is never read (spec/10_state.md section 3, spec/40_dispatch.md section 3): every operation of a
step commutes with adding to it. -/

namespace Sys2Proof.Machine

/-! ### Transfers and operands -/

theorem State.touch_addCycles (a : Addr) (k : Nat) (s : State) : (s.addCycles k).touch a = (s.touch a).addCycles k := by
  rw [State.touch_def, State.touch_def]
  cases route a <;> rfl

theorem State.writeByte_addCycles (a : Addr) (w : Byte) (k : Nat) (s : State) :
    (s.addCycles k).writeByte a w = (s.writeByte a w).addCycles k := by
  rw [State.writeByte_def, State.writeByte_def]
  cases route a <;> rfl

theorem State.readByte_addCycles (a : Addr) (k : Nat) (s : State) :
    (s.addCycles k).readByte a = ((s.readByte a).1, (s.readByte a).2.addCycles k) := by
  rw [State.readByte, State.peek_addCycles, State.touch_addCycles]
  rfl

theorem State.readPair_addCycles (a a' : Addr) (k : Nat) (s : State) :
    (s.addCycles k).readPair a a' = ((s.readPair a a').1, (s.readPair a a').2.addCycles k) := by
  simp only [State.readPair, State.readByte_addCycles]

theorem readOperand_addCycles (ctx : Ctx) (k : Nat) (s : State) :
    readOperand ctx (s.addCycles k) = ((readOperand ctx s).1, (readOperand ctx s).2.addCycles k) := by
  unfold readOperand
  split
  · rfl
  · rw [State.touch_addCycles]
  · rw [State.readByte_addCycles]

theorem writeback_addCycles (ctx : Ctx) (w : Byte) (k : Nat) (s : State) :
    writeback ctx w (s.addCycles k) = (writeback ctx w s).addCycles k := by
  unfold writeback
  split
  · rfl
  · exact State.writeByte_addCycles _ _ _ _

/-- Charges add up in any order. -/
theorem State.addCycles_comm (j k : Nat) (s : State) : (s.addCycles j).addCycles k = (s.addCycles k).addCycles j := by
  simp only [State.addCycles, Nat.add_right_comm]

/-! ### Handlers -/

theorem branch_addCycles (taken : Bool) (ctx : Ctx) (k : Nat) (s : State) :
    branch taken ctx (s.addCycles k) = (branch taken ctx s).addCycles k := by
  cases taken
  · rfl
  · exact State.addCycles_comm k _ (s.setPc ctx.ea)

theorem shiftOp_addCycles (f : Byte → Bool → Byte × Bool) (ctx : Ctx) (k : Nat) (s : State) :
    shiftOp f ctx (s.addCycles k) = (shiftOp f ctx s).addCycles k := by
  simp only [shiftOp, readOperand_addCycles, State.addCycles_c]
  exact congrArg (State.setZN _) (writeback_addCycles ctx _ k (State.setC _ (readOperand ctx s).2))

/-- No handler reads the cycle count, by the shape of the handler. -/
theorem handlerOf_addCycles (m : Mnemonic) (ctx : Ctx) (k : Nat) (s : State) :
    handlerOf m ctx (s.addCycles k) = (handlerOf m ctx s).addCycles k := by
  cases m
  case BCC | BCS | BEQ | BMI | BNE | BPL | BVC | BVS => exact branch_addCycles _ ctx k s
  case ASL | LSR | ROL | ROR =>
    rw [handlerOf_of_isShift (by decide)]
    exact shiftOp_addCycles _ ctx k s
  case ADC | SBC =>
    simp only [handlerOf, handleAdc, handleSbc, readOperand_addCycles]
    rfl
  case AND | ORA | EOR =>
    simp only [handlerOf, handleAnd, handleOra, handleEor, readOperand_addCycles]
    rfl
  case CMP | CPX | CPY | BIT =>
    simp only [handlerOf, handleCmp, handleCpx, handleCpy, handleBit, readOperand_addCycles]
    rfl
  case LDA | LDX | LDY =>
    simp only [handlerOf, handleLda, handleLdx, handleLdy, readOperand_addCycles]
    rfl
  case STA | STX | STY => exact State.writeByte_addCycles _ _ k s
  case INC | DEC =>
    simp only [handlerOf, handleInc, handleDec, readOperand_addCycles, writeback_addCycles]
    rfl
  case PHA | PHP => simp only [handlerOf, handlePha, handlePhp, State.push_eq]; rfl
  case PLA => simp only [handlerOf, handlePla_eq]; rfl
  case PLP => simp only [handlerOf, handlePlp_eq]; rfl
  case JSR => simp only [handlerOf, handleJsr_eq]; rfl
  case RTS => simp only [handlerOf, handleRts_eq]; rfl
  case RTI => simp only [handlerOf, handleRti_eq]; rfl
  case BRK => simp only [handlerOf, handleBrk_eq]; rfl
  -- What is left writes registers, flags and PC only, or nothing.
  all_goals rfl

/-! ### Resolution, the instruction and the step -/

theorem resolve_addCycles (o : Operand) (p : Addr) (k : Nat) (s : State) :
    resolve o p (s.addCycles k) = { resolve o p s with state := (resolve o p s).state.addCycles k } := by
  cases o
  case indirect | indexedIndirect | indirectIndexed =>
    simp only [resolve, State.readWordWrapped, State.readPair_addCycles] <;> rfl
  all_goals rfl

theorem contextOf_addCycles (op : Byte) (o : Operand) (k : Nat) (s : State) :
    contextOf op o (s.addCycles k) = contextOf op o s := by
  simp only [contextOf, State.addCycles_pc, resolve_addCycles]

theorem readyState_addCycles (op : Byte) (o : Operand) (k : Nat) (s : State) :
    readyState op o (s.addCycles k) = (readyState op o s).addCycles k := by
  rw [readyState_eq, readyState_eq, State.addCycles_pc, resolve_addCycles, State.addCycles_cycles, Nat.add_right_comm]
  rfl

theorem exec_addCycles {i : Instr} {s t : State} (h : exec i s = .next t) (k : Nat) :
    exec i (s.addCycles k) = .next (t.addCycles k) := by
  obtain ⟨hp, rfl⟩ | ⟨hp, rfl⟩ := exec_cases h
  · rw [exec_of_handler (s := s.addCycles k) hp, contextOf_addCycles, readyState_addCycles, handlerOf_addCycles]
  · rw [exec_of_no_handler (s := s.addCycles k) hp, readyState_addCycles]
    rfl

theorem State.interruptEntry_addCycles {vector : Addr} (h : route vector = .mapper) (h' : route (vector + 1) = .mapper)
    (k : Nat) (s : State) : (s.addCycles k).interruptEntry vector = (s.interruptEntry vector).addCycles k := by
  rw [State.interruptEntry_eq h h', State.interruptEntry_eq h h', State.addCycles_cycles, Nat.add_right_comm]
  rfl

theorem State.serviceMailbox_addCycles (k : Nat) (s : State) :
    (s.addCycles k).serviceMailbox = s.serviceMailbox.addCycles k := by
  match hm : s.mailbox with
  | none => rw [State.serviceMailbox_of_none hm, State.serviceMailbox_of_none (s := s.addCycles k) hm]
  | some .irq =>
    cases hi : s.i
    · rw [State.serviceMailbox_of_irq hm hi, State.serviceMailbox_of_irq (s := s.addCycles k) hm hi]
      exact State.interruptEntry_addCycles (by decide) (by decide) k s
    · rw [State.serviceMailbox_of_masked_irq hm hi, State.serviceMailbox_of_masked_irq (s := s.addCycles k) hm hi]
      rfl
  | some .nmi =>
    rw [State.serviceMailbox_of_nmi hm, State.serviceMailbox_of_nmi (s := s.addCycles k) hm]
    exact State.interruptEntry_addCycles (by decide) (by decide) k s
  | some .reset =>
    rw [State.serviceMailbox_of_reset hm, State.serviceMailbox_of_reset (s := s.addCycles k) hm]
    rfl

theorem State.fetchBytes_addCycles (k : Nat) (s : State) :
    (s.addCycles k).fetchBytes = (s.fetchBytes.1, s.fetchBytes.2.addCycles k) := by
  simp only [State.fetchBytes, State.addCycles_pc, State.readByte_addCycles, State.peek_addCycles]
  split <;> rfl

/-- Settles O54: service, the fetch and the instruction each commute with adding to the count, and neither the stall counter
nor the fault list is touched by it. -/
theorem cyclesAreNeverRead : Obligations.CyclesAreNeverRead := by
  intro s t k h
  change step (s.addCycles k) = .next (t.addCycles k)
  obtain ⟨hstuck, ⟨hp, rfl⟩ | ⟨h0, hx⟩⟩ := step_cases h
  · rw [step_of_stall (s := s.addCycles k) hstuck hp]
    simp only [State.stallStep, State.addCycles, Nat.add_right_comm]
  · rw [step_eq (s := s.addCycles k) hstuck h0, State.serviceMailbox_addCycles, State.fetchInstr, State.fetched,
      State.fetchBytes_addCycles]
    exact exec_addCycles hx k

end Sys2Proof.Machine
end

section
/-! PROOFS. The bytes a step runs: where PC and the two bytes after it are memory, the step runs the instruction standing
there (spec/40_dispatch.md section 1), and `withFetchWord` puts one there (the model's convention, log entry 10). -/

namespace Sys2Proof.Machine

/-! ### The instruction standing at PC -/

/-- `bytes` stand in memory at `p`, `p + 1` and `p + 2`. -/
structure State.BytesAt (p : Addr) (bytes : List Byte) (s : State) : Prop where
  memory0 : isMemory p = true
  memory1 : isMemory (p + 1) = true
  memory2 : isMemory (p + 2) = true
  byte0 : s.peek p = bytes.getD 0 0
  byte1 : s.peek (p + 1) = bytes.getD 1 0
  byte2 : s.peek (p + 2) = bytes.getD 2 0

/-- Where memory stands at PC, the fetch reads the bytes standing there, as many as the opcode's entry says. -/
theorem State.fetchBytes_of_bytesAt {s : State} {b0 b1 b2 : Byte} (h : s.BytesAt s.pc [b0, b1, b2]) :
    s.fetchBytes.1 = [b0, b1, b2].take (optable b0).length := by
  obtain ⟨m0, m1, m2, h0, h1, h2⟩ := h
  simp only [List.getD_cons_zero, List.getD_cons_succ] at h0 h1 h2
  have hlen := optable_length_of_mode b0
  simp only [State.fetchBytes, State.readByte, State.touch_of_isMemory m0, State.touch_of_isMemory m1, h0, h1, h2]
  cases hm : (optable b0).mode <;> rw [hm] at hlen <;> simp [hlen]

/-- The bytes fetched being one instruction's, the three bytes decode to it (R71, R72). -/
theorem State.decode_of_bytesAt {s : State} {b0 b1 b2 : Byte} (h : s.BytesAt s.pc [b0, b1, b2]) :
    decode [b0, b1, b2] = .ok (s.fetchInstr, [b0, b1, b2].drop (optable b0).length) := by
  have hfetch : encode s.fetchInstr = [b0, b1, b2].take (optable b0).length := by
    rw [← State.fetchBytes_of_bytesAt h, ← encodeOfDecodeIsTheBytes _ _ _ s.decode_fetchBytes, List.append_nil]
  have hbytes : [b0, b1, b2] = encode s.fetchInstr ++ [b0, b1, b2].drop (optable b0).length := by
    rw [hfetch, List.take_append_drop]
  rw [← decodeOfEncodeIsTheInstruction s.fetchInstr, ← hbytes]

/-- A step that is neither stuck nor stalled runs the instruction standing at PC after mailbox service. -/
theorem step_of_bytesAt {s e : State} {i : Instr} {b0 b1 b2 : Byte} {rest : List Byte} (h : s.stuckAt = none)
    (h0 : s.stall = 0) (he : s.serviceMailbox = e) (hb : e.BytesAt e.pc [b0, b1, b2])
    (hd : decode [b0, b1, b2] = .ok (i, rest)) : step s = exec i e := by
  cases hd.symm.trans (State.decode_of_bytesAt hb)
  rw [step_of_serviceMailbox h h0 he, State.fetched_of_isMemory hb.memory0 hb.memory1 hb.memory2]

/-- Settles O47: the fetched bytes decode to one instruction only, and in memory they are the bytes standing at PC. -/
theorem stepRunsTheDecodedInstruction : Obligations.StepRunsTheDecodedInstruction := by
  intro s i rest h h0 hm
  have he := State.serviceMailbox_of_none hm
  refine ⟨fun hd => ?_, fun m0 m1 m2 hd => step_of_bytesAt h h0 he ⟨m0, m1, m2, rfl, rfl, rfl⟩ hd⟩
  cases hd.symm.trans s.decode_fetchBytes
  exact step_of_serviceMailbox h h0 he

/-! ### Placing bytes -/

/-- Placing a byte changes RAM or the known mapper bytes. -/
theorem State.placeByte_eq (a : Addr) (w : Byte) (s : State) :
    s.placeByte a w = { s with ram := (s.placeByte a w).ram, mapper := (s.placeByte a w).mapper } := by
  unfold State.placeByte
  split <;> rfl

@[simp] theorem State.placeByte_pc (a : Addr) (w : Byte) (s : State) : (s.placeByte a w).pc = s.pc := by
  rw [State.placeByte_eq]
@[simp] theorem State.placeByte_stall (a : Addr) (w : Byte) (s : State) : (s.placeByte a w).stall = s.stall := by
  rw [State.placeByte_eq]
@[simp] theorem State.placeByte_faults (a : Addr) (w : Byte) (s : State) : (s.placeByte a w).faults = s.faults := by
  rw [State.placeByte_eq]
@[simp] theorem State.placeByte_pendingVector (a : Addr) (w : Byte) (s : State) :
    (s.placeByte a w).pendingVector = s.pendingVector := by
  rw [State.placeByte_eq]
  rfl

@[simp] theorem State.placeBytes_pc (p : Addr) (bytes : List Byte) (s : State) : (s.placeBytes p bytes).pc = s.pc := by
  simp [State.placeBytes]
@[simp] theorem State.placeBytes_stall (p : Addr) (bytes : List Byte) (s : State) :
    (s.placeBytes p bytes).stall = s.stall := by
  simp [State.placeBytes]
@[simp] theorem State.placeBytes_faults (p : Addr) (bytes : List Byte) (s : State) :
    (s.placeBytes p bytes).faults = s.faults := by
  simp [State.placeBytes]
@[simp] theorem State.placeBytes_pendingVector (p : Addr) (bytes : List Byte) (s : State) :
    (s.placeBytes p bytes).pendingVector = s.pendingVector := by
  simp [State.placeBytes]

/-- A byte placed in memory is read back. -/
theorem State.peek_placeByte {a : Addr} (h : isMemory a = true) (w : Byte) (s : State) : (s.placeByte a w).peek a = w := by
  unfold State.placeByte
  rcases (isMemory_iff a).mp h with hr | hr
  · simp [State.peek_def, hr]
  · simp [State.peek_def, hr, Mapper.read]

/-- A byte placed at another RAM index, and so at another address, is not seen. -/
theorem State.peek_placeByte_other {a b : Addr} (h : ramIndex a ≠ ramIndex b) (w : Byte) (s : State) :
    (s.placeByte a w).peek b = s.peek b := by
  have hne : a.toNat ≠ b.toNat := fun hc => h (congrArg (· % 0x800) hc)
  have hram : (s.placeByte a w).ramByte (ramIndex b) = s.ramByte (ramIndex b) := by
    unfold State.placeByte
    split <;> simp [State.ramByte, Memory.get_set_other _ _ h]
  have hmap : (s.placeByte a w).mapper.read b = s.mapper.read b := by
    unfold State.placeByte
    split <;> simp [Mapper.read, Memory.get_set_other _ _ hne]
  have hper : (s.placeByte a w).periph = s.periph := by rw [State.placeByte_eq]
  rw [State.peek_def, State.peek_def, hram, hmap, hper]

/-- The successors of an address have other RAM indexes. -/
theorem ramIndex_succ_ne (p : Addr) :
    ramIndex (p + 1) ≠ ramIndex p ∧ ramIndex (p + 2) ≠ ramIndex p ∧ ramIndex (p + 2) ≠ ramIndex (p + 1) := by
  simp only [ramIndex]
  bv_omega

/-- Bytes placed at other RAM indexes are not seen. -/
theorem State.peek_placeBytes_other {p b : Addr} (h : ∀ a ∈ [p, p + 1, p + 2], ramIndex a ≠ ramIndex b)
    (bytes : List Byte) (s : State) : (s.placeBytes p bytes).peek b = s.peek b := by
  rw [State.placeBytes, State.peek_placeByte_other (h _ (by simp)), State.peek_placeByte_other (h _ (by simp)),
    State.peek_placeByte_other (h _ (by simp))]

/-- Three bytes placed in memory stand there. -/
theorem State.placeBytes_bytesAt {p : Addr} (m0 : isMemory p = true) (m1 : isMemory (p + 1) = true)
    (m2 : isMemory (p + 2) = true) (bytes : List Byte) (s : State) : (s.placeBytes p bytes).BytesAt p bytes := by
  obtain ⟨h10, h20, h21⟩ := ramIndex_succ_ne p
  refine ⟨m0, m1, m2, ?_, ?_, ?_⟩
  · rw [State.placeBytes, State.peek_placeByte_other h20, State.peek_placeByte_other h10, State.peek_placeByte m0]
  · rw [State.placeBytes, State.peek_placeByte_other h21, State.peek_placeByte m1]
  · rw [State.placeBytes, State.peek_placeByte m2]

/-! ### What the next step does with the mailbox -/

/-- What mailbox service does, by the vector it loads PC from (R201 to R207): with none it only empties the mailbox. -/
theorem State.serviceMailbox_of_pendingVector (s : State) :
    match s.pendingVector with
    | none => s.serviceMailbox = s.setMailbox none
    | some vector => vector ∈ [nmiVector, resetVector, irqVector] ∧ s.serviceMailbox.pc = vectorWord vector s := by
  unfold State.pendingVector
  match hm : s.mailbox with
  | none =>
    rw [State.serviceMailbox, hm]
    rfl
  | some .irq =>
    cases hi : s.i
    · refine ⟨by decide, ?_⟩
      rw [State.serviceMailbox_of_irq hm hi, State.interruptEntry_eq (by decide) (by decide)]
    · exact State.serviceMailbox_of_masked_irq hm hi
  | some .nmi =>
    refine ⟨by decide, ?_⟩
    rw [State.serviceMailbox_of_nmi hm, State.interruptEntry_eq (by decide) (by decide)]
  | some .reset =>
    refine ⟨by decide, ?_⟩
    rw [State.serviceMailbox_of_reset hm]

/-- Each vector and its successor are mapper addresses, at RAM indexes away from those of the code placed. -/
theorem vector_facts : ∀ vector ∈ [nmiVector, resetVector, irqVector],
    route vector = .mapper ∧ route (vector + 1) = .mapper ∧ 3 ≤ ramIndex vector ∧ 3 ≤ ramIndex (vector + 1) := by
  simp only [List.forall_mem_cons]
  exact ⟨by decide, by decide, by decide, nofun⟩

theorem codeBase_facts : ∀ a ∈ [codeBase, codeBase + 1, codeBase + 2], route a = .mapper ∧ ramIndex a < 3 := by
  simp only [List.forall_mem_cons]
  exact ⟨by decide, by decide, by decide, nofun⟩

/-- A vector's word is what reads of its two bytes give. -/
theorem vectorWord_eq_peek {vector : Addr} (h : route vector = .mapper) (h' : route (vector + 1) = .mapper) (s : State) :
    vectorWord vector s = mkWord (s.peek (vector + 1)) (s.peek vector) := by
  simp only [vectorWord, State.peek_def, h, h']

/-- Bytes stand where they stood in a state whose three reads there are the same. -/
theorem State.BytesAt.of_peek_eq {s t : State} {p : Addr} {bytes : List Byte} (h : s.BytesAt p bytes)
    (hp : ∀ a ∈ [p, p + 1, p + 2], t.peek a = s.peek a) : t.BytesAt p bytes :=
  ⟨h.memory0, h.memory1, h.memory2, (hp p (by simp)).trans h.byte0, (hp (p + 1) (by simp)).trans h.byte1,
    (hp (p + 2) (by simp)).trans h.byte2⟩

/-- With no vector pending, the bytes at PC stand there after mailbox service. -/
theorem State.BytesAt.serviceMailbox_of_no_vector {s : State} {bytes : List Byte} (h : s.BytesAt s.pc bytes)
    (hv : s.pendingVector = none) : s.serviceMailbox.BytesAt s.serviceMailbox.pc bytes := by
  have hservice := s.serviceMailbox_of_pendingVector
  simp only [hv] at hservice
  rw [hservice]
  exact h.of_peek_eq fun a _ => State.peek_setMailbox none a s

/-- With a vector pending that points into the mapper, the bytes there stand at PC after mailbox service, which changes
nothing that a mapper read sees. -/
theorem State.BytesAt.serviceMailbox_of_vector {s : State} {bytes : List Byte} {p vector : Addr} (h : s.BytesAt p bytes)
    (hp : ∀ a ∈ [p, p + 1, p + 2], route a = .mapper) (hv : s.pendingVector = some vector)
    (hlow : s.peek vector = loByte p) (hhigh : s.peek (vector + 1) = hiByte p) :
    s.serviceMailbox.BytesAt s.serviceMailbox.pc bytes := by
  have hservice := s.serviceMailbox_of_pendingVector
  simp only [hv] at hservice
  obtain ⟨hmem, hpc⟩ := hservice
  obtain ⟨hr, hr', -⟩ := vector_facts vector hmem
  obtain ⟨-, -, -, -, -, -, hmap, -⟩ := s.serviceMailbox_keeps
  rw [hpc, vectorWord_eq_peek hr hr', hlow, hhigh, mkWord_hi_lo]
  refine h.of_peek_eq fun a ha => ?_
  rw [State.peek_def, State.peek_def, hp a ha, hmap]

/-- A vector pointed at `codeBase`, with code placed there: the vector is still read so. -/
theorem State.peek_vector_placed {vector : Addr} (hmem : vector ∈ [nmiVector, resetVector, irqVector]) (low high : Byte)
    (bytes : List Byte) (s : State) :
    let t := ((s.placeByte vector low).placeByte (vector + 1) high).placeBytes codeBase bytes
    t.peek vector = low ∧ t.peek (vector + 1) = high := by
  obtain ⟨hr, hr', hk, hk'⟩ := vector_facts vector hmem
  have hcode (a : Addr) (ha : a ∈ [codeBase, codeBase + 1, codeBase + 2]) := (codeBase_facts a ha).2
  constructor
  · rw [State.peek_placeBytes_other fun a ha => by have := hcode a ha; omega,
      State.peek_placeByte_other (ramIndex_succ_ne vector).1, State.peek_placeByte ((isMemory_iff _).mpr (.inr hr))]
  · rw [State.peek_placeBytes_other fun a ha => by have := hcode a ha; omega,
      State.peek_placeByte ((isMemory_iff _).mpr (.inr hr'))]

/-- What `placeInstr` places stands at PC after mailbox service: at the target of the vector that service loads, or at
PC. -/
theorem State.placeInstr_bytesAt (bytes : List Byte) (s : State) :
    (s.placeInstr bytes).serviceMailbox.BytesAt (s.placeInstr bytes).serviceMailbox.pc bytes := by
  have hbase (t : State) : (t.placeBytes codeBase bytes).BytesAt codeBase bytes :=
    State.placeBytes_bytesAt (by decide) (by decide) (by decide) bytes t
  unfold State.placeInstr
  simp only
  split
  case h_1 vector hv =>
    have hmem : vector ∈ [nmiVector, resetVector, irqVector] := by
      have hservice := State.serviceMailbox_of_pendingVector { s with stall := 0 }
      simp only [hv] at hservice
      exact hservice.1
    obtain ⟨hlow, hhigh⟩ :=
      State.peek_vector_placed hmem (loByte codeBase) (hiByte codeBase) bytes { s with stall := 0 }
    exact (hbase _).serviceMailbox_of_vector (fun a ha => (codeBase_facts a ha).1) (by simpa using hv) hlow hhigh
  case h_2 hv =>
    split
    case isTrue hpc =>
      simp only [Bool.and_eq_true] at hpc
      obtain ⟨⟨m0, m1⟩, m2⟩ := hpc
      refine State.BytesAt.serviceMailbox_of_no_vector ?_ ((State.placeBytes_pendingVector _ _ _).trans hv)
      rw [State.placeBytes_pc]
      exact State.placeBytes_bytesAt m0 m1 m2 bytes _
    case isFalse =>
      refine State.BytesAt.serviceMailbox_of_no_vector ?_ ((State.placeBytes_pendingVector _ _ _).trans hv)
      rw [State.placeBytes_pc]
      exact hbase _

/-- Placing an instruction records no fault and leaves no stall owed. -/
theorem State.placeInstr_keeps (bytes : List Byte) (s : State) :
    (s.placeInstr bytes).faults = s.faults ∧ (s.placeInstr bytes).stall = 0 := by
  unfold State.placeInstr
  simp only
  split
  · simp
  · split <;> simp

/-- Settles O60: the placing leaves what mailbox service looks at, so that PC after it is where the bytes were placed. -/
theorem placedWordRunsNext : Obligations.PlacedWordRunsNext := by
  intro s nbits w i h hd
  obtain ⟨hfaults, hstall⟩ := s.placeInstr_keeps (tableWordBytes nbits w)
  have hstuck : (s.withFetchWord nbits w).stuckAt = none := by
    rw [State.stuckAt, State.withFetchWord, hfaults]
    exact h
  have hb := s.placeInstr_bytesAt (tableWordBytes nbits w)
  rw [decodeTableWord] at hd
  split at hd
  case h_1 rest hdecode =>
    cases hd
    exact step_of_bytesAt hstuck hstall rfl hb hdecode
  case h_2 => cases hd

end Sys2Proof.Machine
end
